-- ==== Sys2Proof/Word.lean ====
section
/-!
DEFINITION. The bit-vector types of the block: u8, u16, u32 (spec/00_scope.md R13) and the 32-bit words of the
CMD and RSP ports (spec/20_memory.md R55: words are carried whole and have no byte order).
-/
namespace Sys2Proof

/-- A byte, the spec's u8. -/
abbrev Byte := BitVec 8

/-- The spec's u16. -/
abbrev Half := BitVec 16

/-- The spec's u32. -/
abbrev Word := BitVec 32

/-- A command word of the CMD port (30_encoding.md R70). -/
abbrev CmdWord := BitVec 32

/-- A response word of the RSP port (30_encoding.md R80, R81). -/
abbrev RspWord := BitVec 32

end Sys2Proof
end

