-- ==== Sys2Proof/Syntax.lean ====
section
/-!
DEFINITION. The nine commands of the opcode map (30_encoding.md R75), one constructor per row of
spec/opcode_table.json, with the operand fields of R71 to R74 at their exact widths (R77).
-/
namespace Sys2Proof

/-- A command of the block. An operand has the width of its field, so every value of every operand is legal and no
ill-formed command can be written (LEN covers 0 to 255: R73). -/
inductive Instr where
  /-- NOP, format N (43_control.md R183). -/
  | nop
  /-- CRC_CLEAR, format N (40_crc.md R103). -/
  | crcClear
  /-- CRC_FEED BYTE, format B (40_crc.md R104). -/
  | crcFeed (byte : Byte)
  /-- TX_BEGIN TYPE, LEN, format T (41_framer.md R124). -/
  | txBegin (type : Half) (len : Byte)
  /-- TX_DATA BYTE, format B (41_framer.md R125). -/
  | txData (byte : Byte)
  /-- TX_ABORT, format N (41_framer.md R126). -/
  | txAbort
  /-- RX_RECV, format N (42_reader.md R140). -/
  | rxRecv
  /-- RX_READ ADDR, format A (42_reader.md R155). -/
  | rxRead (addr : Byte)
  /-- REG_READ ADDR, format A (43_control.md R185). -/
  | regRead (addr : Byte)
deriving DecidableEq, Repr

end Sys2Proof
end

