-- ==== Sys2Proof/WellFormed.lean ====
section
/-!
DEFINITION. Well-formed command words, from the format tables of 30_encoding.md R70 to R74 and the illegal encodings of
R76. This is the field-by-field reading of the encoding; Decode.lean reads it from the mask and match columns of R75, and
an obligation says that the two agree. A term of `Instr` needs no check: its operands have their fields' widths.
-/
namespace Sys2Proof

/-- The command formats (30_encoding.md R71 to R74). -/
inductive Format where
  | N | B | T | A
deriving DecidableEq, Repr

/-- The opcode field OP, bits [31:24] (R70). -/
def opField (w : CmdWord) : Byte := w.extractLsb' 24 8

/-- The format of an assigned opcode; `none` for the 247 unassigned values (R75, R76). -/
def formatOf (op : Byte) : Option Format :=
  if op = 0x00 then some .N
  else if op = 0x01 then some .N
  else if op = 0x02 then some .B
  else if op = 0x10 then some .T
  else if op = 0x11 then some .B
  else if op = 0x12 then some .N
  else if op = 0x20 then some .N
  else if op = 0x21 then some .A
  else if op = 0x30 then some .A
  else none

/-- Whether the reserved bits of a format are all 0 in a word: [23:0] in format N, [23:8] in formats B and A, none in
format T (R71 to R74). -/
def reservedClear (f : Format) (w : CmdWord) : Bool :=
  match f with
  | .N => w.extractLsb' 0 24 == 0
  | .B => w.extractLsb' 8 16 == 0
  | .T => true
  | .A => w.extractLsb' 8 16 == 0

/-- Why a command word is illegal (R76). -/
inductive IllegalReason where
  /-- OP is not in the opcode map. -/
  | unassignedOpcode
  /-- OP is assigned and a reserved bit of its format is 1. -/
  | reservedBitSet
deriving DecidableEq, Repr

/-- What R76 says of a word: `none` when it is a legal encoding. -/
def illegalReason (w : CmdWord) : Option IllegalReason :=
  match formatOf (opField w) with
  | none => some .unassignedOpcode
  | some f => if reservedClear f w then none else some .reservedBitSet

/-- A command word is well formed when it is no illegal encoding (R76). -/
def wordWellFormed (w : CmdWord) : Bool := (illegalReason w).isNone

end Sys2Proof
end

