-- ==== Sys2Proof/Decode.lean ====
section
/-!
DEFINITION. The decoder, from the mask and match columns of 30_encoding.md R75 and the operand fields of R77, and the
encoder, from the format tables R71 to R74. Decoding reads only the word (43_control.md R180).
-/
namespace Sys2Proof

/-- The nine rows of the opcode map, by mnemonic. -/
inductive Mnemonic where
  | nop | crcClear | crcFeed | txBegin | txData | txAbort | rxRecv | rxRead | regRead
deriving DecidableEq, Repr

/-- A row of the opcode map: a word w encodes it when `w & mask = pattern` (R75). -/
structure OpcodeRow where
  mnemonic : Mnemonic
  pattern : CmdWord
  mask : CmdWord
deriving DecidableEq, Repr

/-- The opcode map (R75), in the order of the table. -/
def opcodeMap : List OpcodeRow :=
  [ ⟨.nop,      0x00000000, 0xFFFFFFFF⟩,
    ⟨.crcClear, 0x01000000, 0xFFFFFFFF⟩,
    ⟨.crcFeed,  0x02000000, 0xFFFFFF00⟩,
    ⟨.txBegin,  0x10000000, 0xFF000000⟩,
    ⟨.txData,   0x11000000, 0xFFFFFF00⟩,
    ⟨.txAbort,  0x12000000, 0xFFFFFFFF⟩,
    ⟨.rxRecv,   0x20000000, 0xFFFFFFFF⟩,
    ⟨.rxRead,   0x21000000, 0xFFFFFF00⟩,
    ⟨.regRead,  0x30000000, 0xFFFFFF00⟩ ]

/-- Whether a row fits a word (R75). -/
def OpcodeRow.fits (r : OpcodeRow) (w : CmdWord) : Bool := w &&& r.mask == r.pattern

/-- BYTE or ADDR, bits [7:0] (R72, R74, R77). -/
def byteField (w : CmdWord) : Byte := w.extractLsb' 0 8

/-- LEN, bits [23:16] (R73, R77). -/
def lenField (w : CmdWord) : Byte := w.extractLsb' 16 8

/-- TYPE, bits [15:0] (R73, R77). -/
def typeField (w : CmdWord) : Half := w.extractLsb' 0 16

/-- The command of a row with the operands of a word (R77). -/
def Mnemonic.withOperands (m : Mnemonic) (w : CmdWord) : Instr :=
  match m with
  | .nop => .nop
  | .crcClear => .crcClear
  | .crcFeed => .crcFeed (byteField w)
  | .txBegin => .txBegin (typeField w) (lenField w)
  | .txData => .txData (byteField w)
  | .txAbort => .txAbort
  | .rxRecv => .rxRecv
  | .rxRead => .rxRead (byteField w)
  | .regRead => .regRead (byteField w)

/-- The decoder (43_control.md R180): total on every word; an illegal word is refused with the reason R76 gives. -/
def decode (w : CmdWord) : Except IllegalReason Instr :=
  match opcodeMap.find? (·.fits w) with
  | some r => .ok (r.mnemonic.withOperands w)
  | none =>
    if (formatOf (opField w)).isSome then .error .reservedBitSet else .error .unassignedOpcode

/-- Format N: OP in [31:24], reserved bits 0 (R71). -/
def encodeN (op : Byte) : CmdWord := op.zeroExtend 32 <<< 24

/-- Formats B and A: OP in [31:24], the byte operand in [7:0], reserved bits 0 (R72, R74). -/
def encodeB (op b : Byte) : CmdWord := (op.zeroExtend 32 <<< 24) ||| b.zeroExtend 32

/-- Format T: OP in [31:24], LEN in [23:16], TYPE in [15:0] (R73). -/
def encodeT (op len : Byte) (type : Half) : CmdWord :=
  (op.zeroExtend 32 <<< 24) ||| (len.zeroExtend 32 <<< 16) ||| type.zeroExtend 32

/-- The command word of a command (R70 to R75). -/
def encode (i : Instr) : CmdWord :=
  match i with
  | .nop => encodeN 0x00
  | .crcClear => encodeN 0x01
  | .crcFeed b => encodeB 0x02 b
  | .txBegin t n => encodeT 0x10 n t
  | .txData b => encodeB 0x11 b
  | .txAbort => encodeN 0x12
  | .rxRecv => encodeN 0x20
  | .rxRead a => encodeB 0x21 a
  | .regRead a => encodeB 0x30 a

/-- The command word whose bits spec/opcode_table.json numbers as w, bit 0 the least significant: a command is one
32-bit word and the ports carry it whole (R70, R78, 20_memory.md R55; log 12). Bits from nbits up are 0. -/
def tableWord (nbits w : Nat) : CmdWord := BitVec.ofNat 32 (w % 2 ^ nbits)

/-- What the decoder reads from a table row's bits. -/
def decodeTableWord (nbits w : Nat) : Option Instr :=
  match decode (tableWord nbits w) with
  | .ok i => some i
  | .error _ => none

end Sys2Proof
end

