-- ==== Sys2Proof/Config.lean ====
section
/-!
DEFINITION. What is fixed when a block is built (00_scope.md R11), and the model's one free value.
-/
namespace Sys2Proof

/-- The configuration parameters of 00_scope.md R11, with the spec's defaults. PRESUMED by the spec itself for the two
CRC values (93_implementation_defined.md G1, G2; log 1), the spec's decision D9 for the counter (log 2).
`State` carries one `Config`, so that a statement about every state holds for every value of the three. -/
structure Config where
  /-- CRC_POLY, the generator without its x^16 term (U1). -/
  crcPoly : Half := 0x1021
  /-- CRC_INIT, the checksum's initial value (U1). -/
  crcInit : Half := 0xFFFF
  /-- COUNTER_RESET, the value of TX_CTR at the start of a session (U3). -/
  counterReset : Word := 0x00000000
deriving DecidableEq, Repr

/-- The configuration with the defaults of R11, which every vector of 95_test_vectors.md assumes. -/
def Config.default : Config := ⟨0x1021, 0xFFFF, 0x00000000⟩

/-- FREE VALUE (DESIGN CHOICE, log 5): what an index outside a byte sequence reads as. No rule of the spec makes such a
read (10_state.md R42, R43), and no state that a run reaches makes one; nothing can be proved of this value. -/
opaque Config.outsideByte : Nat → Byte

end Sys2Proof
end

