-- ==== Sys2Proof/Machine/State.lean ====
section
/-!
DEFINITION. The state of the block (10_state.md R20 to R43), its reset value (70_reset_and_hazards.md R231, R236), and
the ways a step can end other than in a next state.
-/
namespace Sys2Proof.Machine

/-- An item of the RXI port (10_state.md R24). -/
inductive RxItem where
  /-- `Byte(b)`: one received byte. -/
  | byte (b : Byte)
  /-- `End`: the input source is exhausted. -/
  | endOfInput
deriving DecidableEq, Repr

/-- RX_STATE (10_state.md R34). -/
inductive RxState where
  | idle | seekSync | readLen | readLenc | readBody
deriving DecidableEq, Repr

/-- The status codes of 30_encoding.md R82; every one but `ok` is an error of 60_exceptions.md R201. -/
inductive StatusCode where
  | ok
  | inputExhausted
  | lengthComplementMismatch
  | checksumMismatch
  | unsupportedVersion
  | unsupportedFlags
  | malformedEnvelope
  | payloadTooLarge
  | illegalCommand
  | sequenceError
  | badAddress
  | noFrame
deriving DecidableEq, Repr

/-- Where the engine has no enabled step (43_control.md R181, R188). No command raises either. -/
inductive Fault where
  /-- Raised by `step` when RX_STATE is IDLE and CMD is empty: the engine is idle, waiting for the host. Safe: the spec
  gives the engine no step here (log 4). -/
  | quiescent
  /-- Raised by `step` when a receive is in progress and RXI is empty: the engine waits for the receive transport. Safe:
  93_implementation_defined.md U10, stuck; only the transport or a reset ends the wait (log 4). -/
  | waiting
deriving DecidableEq, Repr

/-- Why a command could be refused. No meaning of this model refuses. -/
inductive Refusal where
  /-- Raised by `exec` alone, for a command without a meaning; no arm of this model raises it. Safe. -/
  | notModelled (mnemonic : String)
deriving DecidableEq, Repr

/-- Everything the spec gives the block. The ports are lists with the oldest entry first. -/
structure State where
  /-- The build-time parameters (00_scope.md R11): the model's own field, which nothing changes (log 1). -/
  cfg : Config
  /-- Port CMD (R21). -/
  cmd : List CmdWord
  /-- Port RSP (R22). -/
  rsp : List RspWord
  /-- Port TXO (R23). -/
  txo : List Byte
  /-- Port RXI (R24). -/
  rxi : List RxItem
  /-- CRC_ACC, the host's accumulator (R27). -/
  crcAcc : Half
  /-- TX_CTR, the packet counter (R28). -/
  txCtr : Word
  /-- TX_STAGING (R29). -/
  txStaging : Bool
  /-- TX_TYPE (R30). -/
  txType : Half
  /-- TX_LEN (R31). -/
  txLen : Byte
  /-- TX_FILL (R32). -/
  txFill : Byte
  /-- TX_BUF[0..243] (R33). -/
  txBuf : Vector Byte 244
  /-- RX_STATE (R34). -/
  rxState : RxState
  /-- RX_L (R35). -/
  rxL : Byte
  /-- RX_LC (R35). -/
  rxLc : Byte
  /-- RX_FILL (R36). -/
  rxFill : Byte
  /-- RX_BODY[0..254] (R36). -/
  rxBody : Vector Byte 255
  /-- RX_VALID (R37). -/
  rxValid : Bool
  /-- RX_CTR (R38). -/
  rxCtr : Word
  /-- RX_TYPE (R38). -/
  rxType : Half
  /-- RX_PLEN (R38). -/
  rxPlen : Byte
  /-- RX_PAYLOAD[0..243] (R38). -/
  rxPayload : Vector Byte 244
deriving DecidableEq, Repr

/-- The reset state of a block built with the parameters c, all four ports empty (70_reset_and_hazards.md R231, R232,
R236). DESIGN CHOICE (log 3): TX_BUF, RX_L, RX_LC, RX_BODY, RX_CTR, RX_TYPE, RX_PLEN and RX_PAYLOAD, whose reset values
R231 leaves unspecified and never observable, hold zero. -/
def State.resetWith (c : Config) : State where
  cfg := c
  cmd := []
  rsp := []
  txo := []
  rxi := []
  crcAcc := c.crcInit
  txCtr := c.counterReset
  txStaging := false
  txType := 0
  txLen := 0
  txFill := 0
  txBuf := Vector.replicate 244 0
  rxState := .idle
  rxL := 0
  rxLc := 0
  rxFill := 0
  rxBody := Vector.replicate 255 0
  rxValid := false
  rxCtr := 0
  rxType := 0
  rxPlen := 0
  rxPayload := Vector.replicate 244 0

/-- The machine right after reset, with the default parameters of 00_scope.md R11. -/
def State.reset : State := State.resetWith Config.default

end Sys2Proof.Machine
end

