-- ==== Sys2Proof/Machine/Bytes.lean ====
section
/-!
DEFINITION. Byte sequences and byte order (00_scope.md R14, 20_memory.md R52) and the protocol constants of
00_scope.md R10.
-/
namespace Sys2Proof.Machine

/-- SYNC (00_scope.md R10). -/
abbrev syncByte : Byte := 0xAA

/-- STX, the start-of-data marker (R10). -/
abbrev stxByte : Byte := 0x55

/-- VERSION, sent and required on receive (R10, 90_conflicts.md C4). -/
abbrev versionByte : Byte := 0x00

/-- FLAGS, sent and required on receive (R10). -/
abbrev flagsByte : Byte := 0x00

/-- OVERHEAD: nine header bytes and two checksum bytes (R10, 30_encoding.md R87). -/
abbrev overhead : Nat := 11

/-- MAX_PAYLOAD (R10). -/
abbrev maxPayload : Nat := 244

/-- `s[i]` (R14); an index outside the sequence, which no rule makes, reads as a free value (log 5). -/
def byteAt (s : List Byte) (i : Nat) : Byte := (s[i]?).getD (Config.outsideByte i)

/-- `s[a:b]`, half-open (R14, 90_conflicts.md C6). -/
def slice (s : List Byte) (a b : Nat) : List Byte := (List.range (b - a)).map fun i => byteAt s (a + i)

/-- `a[i] <- b` for an array of the block; a write outside the array, which no rule makes, writes nothing (log 5). -/
def setByte {n : Nat} (a : Vector Byte n) (i : Byte) (b : Byte) : Vector Byte n := a.setIfInBounds i.toNat b

/-- `le16(v)`: the least significant byte first (R14, 20_memory.md R52). -/
def le16 (v : Half) : List Byte := [v.extractLsb' 0 8, v.extractLsb' 8 8]

/-- `le32(v)`: the least significant byte first (R14, 20_memory.md R52). -/
def le32 (v : Word) : List Byte :=
  [v.extractLsb' 0 8, v.extractLsb' 8 8, v.extractLsb' 16 8, v.extractLsb' 24 8]

/-- The u16 whose low byte is b0 (20_memory.md R52). -/
def fromLe16 (b0 b1 : Byte) : Half := b1 ++ b0

/-- The u32 whose lowest byte is b0 (20_memory.md R52). -/
def fromLe32 (b0 b1 b2 b3 : Byte) : Word := b3 ++ b2 ++ b1 ++ b0

end Sys2Proof.Machine
end

