-- ==== Sys2Proof/Machine/Ops.lean ====
section
/-!
DEFINITION. The primitives of 00_scope.md R15, the response words (30_encoding.md R80 to R82), reporting an error
(60_exceptions.md R200, R215) and the engine's choice of its next step (43_control.md R181).
-/
namespace Sys2Proof.Machine

/-- The CODE of a status (30_encoding.md R82). -/
def StatusCode.bits (c : StatusCode) : BitVec 7 :=
  match c with
  | .ok => 0x00
  | .inputExhausted => 0x01
  | .lengthComplementMismatch => 0x02
  | .checksumMismatch => 0x03
  | .unsupportedVersion => 0x04
  | .unsupportedFlags => 0x05
  | .malformedEnvelope => 0x06
  | .payloadTooLarge => 0x07
  | .illegalCommand => 0x10
  | .sequenceError => 0x11
  | .badAddress => 0x12
  | .noFrame => 0x13

/-- A completion word: E = 0 in [31], CODE in [30:24], DATA in [23:0] (30_encoding.md R80). -/
def completionWord (code : StatusCode) (data : BitVec 24) : RspWord :=
  (code.bits.zeroExtend 32 <<< 24) ||| data.zeroExtend 32

/-- A SKIP event word: E = 1, KIND = 0x01, reserved bits 0, BYTE in [7:0] (30_encoding.md R81). -/
def skipWord (b : Byte) : RspWord := 0x81000000 ||| b.zeroExtend 32

/-- Whether a response word is a completion word: E = 0 (R80, R81). -/
def isCompletion (w : RspWord) : Bool := !w.msb

/-- `Complete(code, data)` (00_scope.md R15). -/
def State.complete (s : State) (code : StatusCode) (data : BitVec 24) : State :=
  { s with rsp := s.rsp ++ [completionWord code data] }

/-- `raise <Error>`: the block's whole exception entry. One completion word with DATA 0 and nothing else: no state is
saved, no mode changes, nothing is vectored (00_scope.md R15, 60_exceptions.md R200, R215). There is no return from it:
the engine takes the next command as after a success (R216). -/
def State.raise (s : State) (e : StatusCode) : State := s.complete e 0

/-- `Event(SKIP, b)` (00_scope.md R15). -/
def State.skipEvent (s : State) (b : Byte) : State := { s with rsp := s.rsp ++ [skipWord b] }

/-- `TxPush(f[i])` for each byte of f in order (00_scope.md R15, 41_framer.md R127). -/
def State.txPush (s : State) (f : List Byte) : State := { s with txo := s.txo ++ f }

/-- The engine's one enabled step, if any (43_control.md R181). -/
inductive Selection where
  /-- A command step: the word `CmdPop()` returns, and the state without it. -/
  | command (w : CmdWord) (s : State)
  /-- A reader step: the item `RxPull()` returns, and the state without it. -/
  | reader (x : RxItem) (s : State)
  /-- None: idle, waiting for the host. -/
  | idle
  /-- None: waiting for the receive transport. -/
  | waiting
deriving DecidableEq, Repr

/-- The table of 43_control.md R181, with `CmdPop` and `RxPull` (00_scope.md R15). -/
def State.select (s : State) : Selection :=
  if s.rxState = .idle then
    match s.cmd with
    | [] => .idle
    | w :: rest => .command w { s with cmd := rest }
  else
    match s.rxi with
    | [] => .waiting
    | x :: rest => .reader x { s with rxi := rest }

/-- The 32-bit word at the head of CMD, and an engine ready to take it: the receive in progress, if any, is abandoned,
since R181 takes no command during one (log 6). -/
def State.withCommand (s : State) (w : CmdWord) : State :=
  { s with cmd := w :: s.cmd, rxState := .idle, rxFill := 0 }

end Sys2Proof.Machine
end

