-- ==== Sys2Proof/Machine/Flags.lean ====
section
/-!
DEFINITION. The block's only status bits, STAGING and VALID, as the registers that hold them (10_state.md R39, R40).
There are no condition codes and no flags register, so no command computes a flag from a result.
-/
namespace Sys2Proof.Machine

/-- A status bit in bit 0 of a 16-bit register whose bits [15:1] are hardwired 0 (10_state.md R39). -/
def statusBit (b : Bool) : Half := if b then 1 else 0

/-- TX_STATUS: STAGING in bit 0 (R39, R40). -/
def State.txStatus (s : State) : Half := statusBit s.txStaging

/-- RX_STATUS: VALID in bit 0 (R39, R40). -/
def State.rxStatus (s : State) : Half := statusBit s.rxValid

end Sys2Proof.Machine
end

