-- ==== Sys2Proof/Machine/Operands.lean ====
section
/-!
DEFINITION. What an ADDR operand reaches: the register space (10_state.md R39, 43_control.md R185) and the RX payload
index space (20_memory.md R51, 42_reader.md R155). BYTE, LEN and TYPE operands are values as they stand (30_encoding.md
R77).
-/
namespace Sys2Proof.Machine

/-- What reading an index space gives: a value, or the error the read completes with. -/
inductive ReadResult (width : Nat) where
  | value (v : BitVec width)
  | error (e : StatusCode)
deriving DecidableEq, Repr

/-- A decoded-frame register: `NoFrame` while RX_VALID = 0 (10_state.md R38, 43_control.md R185). -/
def State.ofFrame {n : Nat} (s : State) (v : BitVec n) : ReadResult n :=
  if s.rxValid then .value v else .error .noFrame

/-- TX_PROGRESS: LEN in [7:0], FILL in [15:8] (10_state.md R39). -/
def State.txProgress (s : State) : Half := s.txFill ++ s.txLen

/-- The register space (10_state.md R39): `BadAddress` is tested before `NoFrame` (60_exceptions.md R214). -/
def State.readRegister (s : State) (addr : Byte) : ReadResult 16 :=
  if addr = 0x00 then .value s.crcAcc
  else if addr = 0x01 then .value (s.txCtr.extractLsb' 0 16)
  else if addr = 0x02 then .value (s.txCtr.extractLsb' 16 16)
  else if addr = 0x03 then .value s.txStatus
  else if addr = 0x04 then .value s.txType
  else if addr = 0x05 then .value s.txProgress
  else if addr = 0x08 then .value s.rxStatus
  else if addr = 0x09 then s.ofFrame (s.rxCtr.extractLsb' 0 16)
  else if addr = 0x0A then s.ofFrame (s.rxCtr.extractLsb' 16 16)
  else if addr = 0x0B then s.ofFrame s.rxType
  else if addr = 0x0C then s.ofFrame (s.rxPlen.zeroExtend 16)
  else .error .badAddress

/-- The RX payload index space (20_memory.md R51): `NoFrame` is tested before `BadAddress` (60_exceptions.md R214). -/
def State.readPayload (s : State) (addr : Byte) : ReadResult 8 :=
  if s.rxValid = false then .error .noFrame
  else if addr ≥ s.rxPlen then .error .badAddress
  else .value (byteAt s.rxPayload.toList addr.toNat)

/-- Completing a read: the value zero-extended to 24 bits (20_memory.md R57), or the error raised. No other effect
(R58). -/
def State.completeRead {n : Nat} (s : State) (r : ReadResult n) : State :=
  match r with
  | .value v => s.complete .ok (v.zeroExtend 24)
  | .error e => s.raise e

end Sys2Proof.Machine
end

