-- ==== Sys2Proof/Machine/Checksum.lean ====
section
/-!
DEFINITION. The checksum unit (40_crc.md): the function of R100 and R101, its table form (R106), and the commands
CRC_CLEAR and CRC_FEED.
-/
namespace Sys2Proof.Machine

/-- One of the eight shifts of `crc_step` (40_crc.md R100). -/
def crcShift (poly c : Half) : Half := if c.msb then (c <<< 1) ^^^ poly else c <<< 1

/-- `crc_step(c, b)` (R100): the byte enters most significant bit first, nothing is reflected. -/
def crcStep (poly c : Half) (b : Byte) : Half :=
  Nat.iterate (crcShift poly) 8 (c ^^^ (b.zeroExtend 16 <<< 8))

/-- The left fold of `crc_step` from an accumulator (R101, R105). -/
def crcFold (poly : Half) (c : Half) (s : List Byte) : Half := s.foldl (crcStep poly) c

/-- `crc16(s)` (R101): the same function for the framer and the reader (R102). -/
def crc16 (c : Config) (s : List Byte) : Half := crcFold c.crcPoly c.crcInit s

/-- `T[i]` (R106). -/
def crcTable (poly : Half) (i : Byte) : Half := crcStep poly 0 i

/-- CRC_CLEAR (R103). -/
def execCrcClear (s : State) : Host.Outcome State Fault Refusal :=
  let s1 := { s with crcAcc := s.cfg.crcInit }
  .next (s1.complete .ok (s1.crcAcc.zeroExtend 24))

/-- CRC_FEED (R104). -/
def execCrcFeed (byte : Byte) (s : State) : Host.Outcome State Fault Refusal :=
  let s1 := { s with crcAcc := crcStep s.cfg.crcPoly s.crcAcc byte }
  .next (s1.complete .ok (s1.crcAcc.zeroExtend 24))

end Sys2Proof.Machine
end

