-- ==== Sys2Proof/Machine/Framer.lean ====
section
/-!
DEFINITION. The packet framer (41_framer.md): the envelope (R120), the emission of a frame (R127), and the commands
TX_BEGIN, TX_DATA and TX_ABORT.
-/
namespace Sys2Proof.Machine

/-- The envelope up to its payload: sync, length, complement, version, counter, flags, messageType, stx (R120, R121,
R123; 30_encoding.md R86). -/
def envelopeHead (ctr : Word) (t : Half) (n : Nat) : List Byte :=
  let len : Byte := BitVec.ofNat 8 (overhead + n)
  [syncByte, len, 255 - len, versionByte] ++ le32 ctr ++ [flagsByte] ++ le16 t ++ [stxByte]

/-- `envelope(ctr, t, p)` (R120): the checksum covers sync through the last payload byte (R122, 30_encoding.md R89). -/
def envelope (c : Config) (ctr : Word) (t : Half) (p : List Byte) : List Byte :=
  let body := envelopeHead ctr t p.length ++ p
  body ++ le16 (crc16 c body)

/-- `TX_STAGING <- 0; TX_TYPE <- 0; TX_LEN <- 0; TX_FILL <- 0` (R126, R127). -/
def State.clearStaging (s : State) : State :=
  { s with txStaging := false, txType := 0, txLen := 0, txFill := 0 }

/-- An accepted TX_BEGIN with LEN > 0 (R124). -/
def State.openStaging (s : State) (type : Half) (len : Byte) : State :=
  { s with txStaging := true, txType := type, txLen := len, txFill := 0 }

/-- `TX_BUF[TX_FILL] <- BYTE; TX_FILL <- TX_FILL + 1` (R125). -/
def State.stageByte (s : State) (b : Byte) : State :=
  { s with txBuf := setByte s.txBuf s.txFill b, txFill := s.txFill + 1 }

/-- `EmitFrame(t, p)` (R127): the whole frame goes to TXO in this one step, with the counter before its increment, and
the counter wraps (R128). -/
def State.emitFrame (s : State) (t : Half) (p : List Byte) : State :=
  let s1 := s.txPush (envelope s.cfg s.txCtr t p)
  { s1 with txCtr := s1.txCtr + 1 }.clearStaging

/-- TX_BEGIN (R124); SequenceError is tested before PayloadTooLarge (60_exceptions.md R214). -/
def execTxBegin (type : Half) (len : Byte) (s : State) : Host.Outcome State Fault Refusal :=
  if s.txStaging then .next (s.raise .sequenceError)
  else if len.toNat > maxPayload then .next (s.raise .payloadTooLarge)
  else if len = 0 then .next ((s.emitFrame type []).complete .ok 0)
  else .next ((s.openStaging type len).complete .ok 0)

/-- TX_DATA (R125). -/
def execTxData (byte : Byte) (s : State) : Host.Outcome State Fault Refusal :=
  if s.txStaging = false then .next (s.raise .sequenceError)
  else
    let s1 := s.stageByte byte
    if s1.txFill = s1.txLen then
      .next ((s1.emitFrame s1.txType (slice s1.txBuf.toList 0 s1.txLen.toNat)).complete .ok 0)
    else .next (s1.complete .ok 0)

/-- TX_ABORT (R126). -/
def execTxAbort (s : State) : Host.Outcome State Fault Refusal := .next (s.clearStaging.complete .ok 0)

end Sys2Proof.Machine
end

