-- ==== Sys2Proof/Machine/Reader.lean ====
section
/-!
DEFINITION. The frame reader (42_reader.md): the commands RX_RECV (R140) and RX_READ (R155), the reader steps (R141 to
R146), validation (R147 to R151), emission (R152) and the end of a receive (R153).
-/
namespace Sys2Proof.Machine

/-- The source's DecodedFrame (00_scope.md R17). -/
structure DecodedFrame where
  counter : Word
  messageType : Half
  payload : List Byte
deriving DecidableEq, Repr

/-- What validation says of a body: the frame, or the error of the first check that failed (R147). -/
inductive Verdict where
  | accept (f : DecodedFrame)
  | reject (e : StatusCode)
deriving DecidableEq, Repr

/-- The checksum a body carries, its last two bytes read little-endian (R149). -/
def receivedChecksum (body : List Byte) : Half :=
  fromLe16 (byteAt body (body.length - 2)) (byteAt body (body.length - 1))

/-- The checksum computed over sync, the two length bytes and every body byte but the last two (R149). -/
def computedChecksum (c : Config) (l lc : Byte) (body : List Byte) : Half :=
  crc16 c ([syncByte, l, lc] ++ slice body 0 (body.length - 2))

/-- The header checks of R151 in their order, and the frame of R152. -/
def unpackFrame (body : List Byte) : Verdict :=
  if byteAt body 0 ≠ versionByte then .reject .unsupportedVersion
  else if byteAt body 5 ≠ flagsByte then .reject .unsupportedFlags
  else if byteAt body 8 ≠ stxByte then .reject .malformedEnvelope
  else .accept
    { counter := fromLe32 (byteAt body 1) (byteAt body 2) (byteAt body 3) (byteAt body 4)
      messageType := fromLe16 (byteAt body 6) (byteAt body 7)
      payload := slice body 9 (body.length - 2) }

/-- Validation of a body of L bytes (R147): the checks of R148, R149, R150 and R151 in that order. -/
def validateBody (c : Config) (l lc : Byte) (body : List Byte) : Verdict :=
  if body.length < 2 then .reject .malformedEnvelope
  else if computedChecksum c l lc body ≠ receivedChecksum body then .reject .checksumMismatch
  else if body.length < overhead then .reject .malformedEnvelope
  else unpackFrame body

/-- `EndReceive(code, data)` (R153). -/
def State.endReceive (s : State) (code : StatusCode) (data : BitVec 24) : State :=
  { s with rxState := .idle, rxFill := 0 }.complete code data

/-- The payload bytes written to RX_PAYLOAD[0..n-1]; the other entries keep their values (R152). -/
def storePayload (old : Vector Byte 244) (p : List Byte) : Vector Byte 244 :=
  Vector.ofFn fun i => (p[i.val]?).getD old[i]

/-- The decoded-frame registers of an emitted frame, and RX_VALID (R152). -/
def State.keepFrame (s : State) (f : DecodedFrame) : State :=
  { s with
    rxCtr := f.counter
    rxType := f.messageType
    rxPlen := BitVec.ofNat 8 f.payload.length
    rxPayload := storePayload s.rxPayload f.payload
    rxValid := true }

/-- A verdict carried out: R152 on success, the error's EndReceive on failure (R147, R160). -/
def State.conclude (s : State) (v : Verdict) : State :=
  match v with
  | .accept f => (s.keepFrame f).endReceive .ok (BitVec.ofNat 24 f.payload.length)
  | .reject e => s.endReceive e 0

/-- `Validate()` on RX_BODY[0:RX_L] (R147). -/
def State.validate (s : State) : State :=
  s.conclude (validateBody s.cfg s.rxL s.rxLc (slice s.rxBody.toList 0 s.rxL.toNat))

/-- SEEK_SYNC on a byte (R143). -/
def State.seekSyncStep (s : State) (b : Byte) : State :=
  if b = syncByte then { s with rxState := .readLen } else s.skipEvent b

/-- READ_LEN on a byte (R144). -/
def State.readLenStep (s : State) (b : Byte) : State := { s with rxL := b, rxState := .readLenc }

/-- READ_LENC on a byte (R145): RX_L + b = 0xFF is tested on integers (30_encoding.md R88). -/
def State.readLencStep (s : State) (b : Byte) : State :=
  let s1 := { s with rxLc := b }
  if s1.rxL.toNat + b.toNat ≠ 255 then s1.endReceive .lengthComplementMismatch 0
  else if s1.rxL = 0 then s1.validate
  else { s1 with rxState := .readBody }

/-- READ_BODY on a byte (R146). -/
def State.readBodyStep (s : State) (b : Byte) : State :=
  let s1 := { s with rxBody := setByte s.rxBody s.rxFill b, rxFill := s.rxFill + 1 }
  if s1.rxFill = s1.rxL then s1.validate else s1

/-- One reader step on the item x, which `RxPull` has already removed (R141 to R146). The reader never steps while
RX_STATE is IDLE (R141): that case, which `State.select` never makes, changes nothing (log 11). -/
def State.readerStep (s : State) (x : RxItem) : State :=
  match s.rxState, x with
  | .idle, _ => s
  | .seekSync, .byte b => s.seekSyncStep b
  | .readLen, .byte b => s.readLenStep b
  | .readLenc, .byte b => s.readLencStep b
  | .readBody, .byte b => s.readBodyStep b
  | .seekSync, .endOfInput => s.endReceive .inputExhausted 0
  | .readLen, .endOfInput => s.endReceive .inputExhausted 0
  | .readLenc, .endOfInput => s.endReceive .inputExhausted 0
  | .readBody, .endOfInput => s.endReceive .inputExhausted 0

/-- RX_RECV (R140): the command step, which pushes no completion word. -/
def execRxRecv (s : State) : Host.Outcome State Fault Refusal :=
  .next { s with rxValid := false, rxFill := 0, rxState := .seekSync }

/-- RX_READ (R155). -/
def execRxRead (addr : Byte) (s : State) : Host.Outcome State Fault Refusal :=
  .next (s.completeRead (s.readPayload addr))

end Sys2Proof.Machine
end

