-- ==== Sys2Proof/Machine/Control.lean ====
section
/-!
DEFINITION. The control unit (43_control.md): NOP (R183), REG_READ (R185) and the illegal command word (R184).
-/
namespace Sys2Proof.Machine

/-- NOP (R183). -/
def execNop (s : State) : Host.Outcome State Fault Refusal := .next (s.complete .ok 0)

/-- REG_READ (R185). -/
def execRegRead (addr : Byte) (s : State) : Host.Outcome State Fault Refusal :=
  .next (s.completeRead (s.readRegister addr))

/-- An illegal command word, for either reason of 30_encoding.md R76 (R184). -/
def execIllegal (reason : IllegalReason) (s : State) : Host.Outcome State Fault Refusal :=
  match reason with
  | .unassignedOpcode => .next (s.raise .illegalCommand)
  | .reservedBitSet => .next (s.raise .illegalCommand)

end Sys2Proof.Machine
end

