-- ==== Sys2Proof/Machine/Dispatch.lean ====
section
/-!
DEFINITION. Which meaning each command of the opcode map has (43_control.md R180).
-/
namespace Sys2Proof.Machine

def exec (i : Instr) (s : State) : Host.Outcome State Fault Refusal :=
  match i with
  | .nop => Sys2Proof.Machine.execNop s
  | .crcClear => Sys2Proof.Machine.execCrcClear s
  | .crcFeed byte => Sys2Proof.Machine.execCrcFeed byte s
  | .txBegin type len => Sys2Proof.Machine.execTxBegin type len s
  | .txData byte => Sys2Proof.Machine.execTxData byte s
  | .txAbort => Sys2Proof.Machine.execTxAbort s
  | .rxRecv => Sys2Proof.Machine.execRxRecv s
  | .rxRead addr => Sys2Proof.Machine.execRxRead addr s
  | .regRead addr => Sys2Proof.Machine.execRegRead addr s

end Sys2Proof.Machine
end

