-- ==== Sys2Proof/Machine/Step.lean ====
section
/-!
DEFINITION. One engine step (43_control.md R181), and how a command word is placed where the next step takes it.
-/
namespace Sys2Proof.Machine

/-- One engine step (43_control.md R180, R181, 42_reader.md R141): a command step, a reader step, or none. -/
def step (s : State) : Host.Outcome State Fault Refusal :=
  match s.select with
  | .command w s1 =>
    match decode w with
    | .ok i => exec i s1
    | .error e => execIllegal e s1
  | .reader x s1 => .next (s1.readerStep x)
  | .idle => .fault .quiescent
  | .waiting => .fault .waiting

/-- s with the command word of a table row at the head of CMD, ready to be taken by the next step. It stands for the
host's append to an empty CMD (log 6). -/
def State.withFetchWord (s : State) (nbits w : Nat) : State := s.withCommand (tableWord nbits w)

end Sys2Proof.Machine
end

