-- ==== Sys2Proof/Machine/Assembler.lean ====
section
/-!
DEFINITION. The assembler syntax (30_encoding.md R84) and the pseudo-instructions (R85). They are the host's text for
command words, not part of the engine. DESIGN CHOICE where R84 says nothing (log 10): mnemonics and register names are
matched in capitals, blanks around operands are ignored, and an operand that does not fit its field is refused.
-/
namespace Sys2Proof.Machine

/-- Why a line is refused. -/
inductive AsmError where
  | unknownMnemonic
  | operandCount
  | notANumber
  | outOfRange
deriving DecidableEq, Repr

/-- The value of a digit in a base. -/
def digitValue (base : Nat) (c : Char) : Option Nat :=
  let n := c.toNat
  let v := if 48 ≤ n ∧ n ≤ 57 then n - 48
    else if 65 ≤ n ∧ n ≤ 70 then n - 55
    else if 97 ≤ n ∧ n ≤ 102 then n - 87
    else base
  if v < base then some v else none

/-- The value of a run of digits, most significant first, added to the digits already read. -/
def digitsValue (base acc : Nat) : List Char → Option Nat
  | [] => some acc
  | c :: cs =>
    match digitValue base c with
    | some d => digitsValue base (acc * base + d) cs
    | none => none

/-- A number: decimal, or hexadecimal after `0x` (R84). -/
def parseNumber (cs : List Char) : Option Nat :=
  match cs with
  | [] => none
  | '0' :: 'x' :: [] => none
  | '0' :: 'x' :: ds => digitsValue 16 0 ds
  | ds => digitsValue 10 0 ds

/-- The pieces of a text between commas. -/
def splitCommas : List Char → List (List Char)
  | [] => [[]]
  | c :: cs =>
    if c = ',' then [] :: splitCommas cs
    else
      match splitCommas cs with
      | [] => [[c]]
      | p :: ps => (c :: p) :: ps

/-- A text without the blanks at its two ends. -/
def trimBlanks (cs : List Char) : List Char :=
  ((cs.dropWhile (· == ' ')).reverse.dropWhile (· == ' ')).reverse

/-- A line cut into its mnemonic and its operands (R84). -/
def cutLine (cs : List Char) : List Char × List (List Char) :=
  let line := trimBlanks cs
  let rest := trimBlanks (line.dropWhile (· != ' '))
  (line.takeWhile (· != ' '), if rest.isEmpty then [] else (splitCommas rest).map trimBlanks)

/-- A numeric operand of a field of the given width (R77, R84). -/
def numberOperand (width : Nat) (cs : List Char) : Except AsmError (BitVec width) :=
  match parseNumber cs with
  | none => .error .notANumber
  | some n => if n < 2 ^ width then .ok (BitVec.ofNat width n) else .error .outOfRange

/-- The register names of 10_state.md R39 with their addresses. -/
def registerNames : List (String × Byte) :=
  [ ("CRC_ACC", 0x00), ("TX_CTR_LO", 0x01), ("TX_CTR_HI", 0x02), ("TX_STATUS", 0x03), ("TX_TYPE", 0x04),
    ("TX_PROGRESS", 0x05), ("RX_STATUS", 0x08), ("RX_CTR_LO", 0x09), ("RX_CTR_HI", 0x0A), ("RX_TYPE", 0x0B),
    ("RX_PLEN", 0x0C) ]

/-- The ADDR of REG_READ: a number or a register name (R84). -/
def registerOperand (cs : List Char) : Except AsmError Byte :=
  match registerNames.find? (fun r => r.1.toList == cs) with
  | some r => .ok r.2
  | none => numberOperand 8 cs

/-- A command with no operand. -/
def noOperand (i : Instr) (ops : List (List Char)) : Except AsmError Instr :=
  if ops.isEmpty then .ok i else .error .operandCount

/-- A command with one operand. -/
def oneOperand (mk : Byte → Instr) (parse : List Char → Except AsmError Byte) (ops : List (List Char)) :
    Except AsmError Instr :=
  match ops with
  | [a] =>
    match parse a with
    | .ok v => .ok (mk v)
    | .error e => .error e
  | _ => .error .operandCount

/-- TX_BEGIN TYPE, LEN (R84). -/
def headerOperands (ops : List (List Char)) : Except AsmError Instr :=
  match ops with
  | [t, n] =>
    match numberOperand 16 t, numberOperand 8 n with
    | .ok type, .ok len => .ok (.txBegin type len)
    | .error e, _ => .error e
    | _, .error e => .error e
  | _ => .error .operandCount

/-- One line of assembler text (R84). -/
def assemble (line : List Char) : Except AsmError Instr :=
  let l := cutLine line
  if l.1 = "NOP".toList then noOperand .nop l.2
  else if l.1 = "CRC_CLEAR".toList then noOperand .crcClear l.2
  else if l.1 = "CRC_FEED".toList then oneOperand .crcFeed (numberOperand 8) l.2
  else if l.1 = "TX_BEGIN".toList then headerOperands l.2
  else if l.1 = "TX_DATA".toList then oneOperand .txData (numberOperand 8) l.2
  else if l.1 = "TX_ABORT".toList then noOperand .txAbort l.2
  else if l.1 = "RX_RECV".toList then noOperand .rxRecv l.2
  else if l.1 = "RX_READ".toList then oneOperand .rxRead (numberOperand 8) l.2
  else if l.1 = "REG_READ".toList then oneOperand .regRead registerOperand l.2
  else .error .unknownMnemonic

/-- The pseudo-instruction CRC_READ (R85). -/
def pseudoCrcRead : List Instr := [.regRead 0x00]

/-- The pseudo-instruction CRC b0, ..., b(n-1) (R85). -/
def pseudoCrc (bs : List Byte) : List Instr := .crcClear :: bs.map .crcFeed

/-- The pseudo-instruction TX_SEND (R85); the 8-bit LEN field expresses lengths up to 255 only (41_framer.md R131). -/
def pseudoTxSend (type : Half) (p : List Byte) : Option (List Instr) :=
  if p.length < 256 then some (.txBegin type (BitVec.ofNat 8 p.length) :: p.map .txData) else none

/-- The pseudo-instruction TX_CTR_READ (R85). -/
def pseudoTxCtrRead : List Instr := [.regRead 0x01, .regRead 0x02]

/-- The reads of the pseudo-instruction RX_FRAME after an RX_RECV that completed OK with DATA = n; whether to send them
is the host's decision (R85). -/
def pseudoRxFrameReads (n : Byte) : List Instr :=
  [.regRead 0x09, .regRead 0x0A, .regRead 0x0B] ++
    (List.range n.toNat).map fun i => .rxRead (BitVec.ofNat 8 i)

end Sys2Proof.Machine
end

