-- ==== Sys2Proof/Machine/Environment.lean ====
section
/-!
DEFINITION. What acts on the block from outside: the moves of the host, the two transports and reset
(70_reset_and_hazards.md R245), the effect of a reset (R230 to R234) and the launch state (R236). None of them is an
engine step (log 8).
-/
namespace Sys2Proof.Machine

/-- A reset of a running block: every register as after reset, CMD and RSP emptied, TXO and RXI left alone; a receive is
abandoned without a completion word and a staged frame is discarded (R231 to R234). DESIGN CHOICE (log 7): the registers
R231 leaves unspecified get the values they have in `State.reset`. -/
def State.resetMove (s : State) : State := { State.resetWith s.cfg with txo := s.txo, rxi := s.rxi }

/-- The launch state of R236: CMD holds the host's words, RXI the transport's items, RSP and TXO are empty. -/
def State.launch (c : Config) (cmds : List CmdWord) (items : List RxItem) : State :=
  { State.resetWith c with cmd := cmds, rxi := items }

/-- The moves of the outside agents: these and no others (R245). -/
inductive Move where
  /-- The host appends a word to CMD. -/
  | hostWrite (w : CmdWord)
  /-- The host reads the oldest word of RSP. -/
  | hostRead
  /-- The transmit transport removes the byte at the head of TXO. -/
  | txDrain
  /-- The receive transport appends an item to RXI. -/
  | rxAppend (x : RxItem)
  /-- The block is reset. -/
  | reset
deriving DecidableEq, Repr

/-- The state after a move; `none` where the move has nothing to read or drain (R245). -/
def Move.apply (m : Move) (s : State) : Option State :=
  match m with
  | .hostWrite w => some { s with cmd := s.cmd ++ [w] }
  | .hostRead => if s.rsp = [] then none else some { s with rsp := s.rsp.tail }
  | .txDrain => if s.txo = [] then none else some { s with txo := s.txo.tail }
  | .rxAppend x => some { s with rxi := s.rxi ++ [x] }
  | .reset => some s.resetMove

end Sys2Proof.Machine
end

