-- ==== Sys2Proof/Machine/Receive.lean ====
section
/-!
DEFINITION. The whole-receive function of 42_reader.md R154, over a finite list of RXI items. It is written apart from the
reader steps; an obligation says that the steps compute it.
-/
namespace Sys2Proof.Machine

/-- How a receive stands when its items are used up or it has ended (R154). -/
inductive ReceiveOutcome where
  /-- BLOCKED: RXI ran out with no `End`; the receive is still in progress. -/
  | blocked
  | failed (e : StatusCode)
  | ok (f : DecodedFrame)
deriving DecidableEq, Repr

/-- The triple (events, outcome, consumed) of R154. -/
structure Received where
  events : List RspWord
  outcome : ReceiveOutcome
  consumed : Nat
deriving DecidableEq, Repr

/-- What pulling n items as bytes gives: the bytes, or after how many items it was blocked or met `End` (R154). -/
inductive Pulled where
  | bytes (bs : List Byte)
  | blocked (k : Nat)
  | ended (k : Nat)
deriving DecidableEq, Repr

/-- n calls of `pull()` as byte (R154). -/
def pullBytes : Nat → List RxItem → Pulled
  | 0, _ => .bytes []
  | _ + 1, [] => .blocked 0
  | _ + 1, .endOfInput :: _ => .ended 1
  | n + 1, .byte b :: rest =>
    match pullBytes n rest with
    | .bytes bs => .bytes (b :: bs)
    | .blocked k => .blocked (k + 1)
    | .ended k => .ended (k + 1)

/-- The outcome of a verdict (R154). -/
def Verdict.outcome (v : Verdict) : ReceiveOutcome :=
  match v with
  | .accept f => .ok f
  | .reject e => .failed e

/-- The body of a frame whose length bytes l and lc were pulled; k items are counted with them (R154). -/
def receiveBody (c : Config) (l lc : Byte) (k : Nat) (items : List RxItem) : Received :=
  if l.toNat + lc.toNat ≠ 255 then ⟨[], .failed .lengthComplementMismatch, k⟩
  else
    match pullBytes l.toNat items with
    | .bytes body => ⟨[], (validateBody c l lc body).outcome, k + l.toNat⟩
    | .blocked j => ⟨[], .blocked, k + j⟩
    | .ended j => ⟨[], .failed .inputExhausted, k + j⟩

/-- The frame after its sync byte, which is counted with it (R154). -/
def receiveFrame (c : Config) (items : List RxItem) : Received :=
  match items with
  | [] => ⟨[], .blocked, 1⟩
  | .endOfInput :: _ => ⟨[], .failed .inputExhausted, 2⟩
  | [.byte _] => ⟨[], .blocked, 2⟩
  | .byte _ :: .endOfInput :: _ => ⟨[], .failed .inputExhausted, 3⟩
  | .byte l :: .byte lc :: rest => receiveBody c l lc 3 rest

/-- `receive(items)` (R154): the loop of SEEK_SYNC, then the frame. -/
def receive (c : Config) : List RxItem → Received
  | [] => ⟨[], .blocked, 0⟩
  | .endOfInput :: _ => ⟨[], .failed .inputExhausted, 1⟩
  | .byte b :: rest =>
    if b = syncByte then receiveFrame c rest
    else
      let r := receive c rest
      ⟨skipWord b :: r.events, r.outcome, r.consumed + 1⟩

/-- The completion word of an outcome; none while the receive is blocked (R153, R154). -/
def ReceiveOutcome.completion (o : ReceiveOutcome) : List RspWord :=
  match o with
  | .blocked => []
  | .failed e => [completionWord e 0]
  | .ok f => [completionWord .ok (BitVec.ofNat 24 f.payload.length)]

end Sys2Proof.Machine
end

