-- ==== Sys2Proof/Safety.lean ====
section
/-!
DEFINITION. The terms claims are made in: the invariants of 10_state.md R42, the end of a run (43_control.md R188), runs
of the engine and of the block with its outside agents, and what no behaviour can depend on (70_reset_and_hazards.md
R231).
-/
namespace Sys2Proof.Machine

/-- R42 (a): an idle framer's registers are 0. -/
abbrev State.InvIdleFramer (s : State) : Prop :=
  s.txStaging = false → s.txType = 0 ∧ s.txLen = 0 ∧ s.txFill = 0

/-- R42 (b): a staging has a length in 1..244 and is not complete. -/
abbrev State.InvStaging (s : State) : Prop :=
  s.txStaging = true → 1 ≤ s.txLen.toNat ∧ s.txLen.toNat ≤ 244 ∧ s.txFill.toNat < s.txLen.toNat

/-- R42 (c): a body being read is not complete. -/
abbrev State.InvBody (s : State) : Prop :=
  s.rxState = .readBody → 1 ≤ s.rxL.toNat ∧ s.rxFill.toNat < s.rxL.toNat

/-- R42 (d): outside READ_BODY no body byte is held. -/
abbrev State.InvNoBody (s : State) : Prop := s.rxState ≠ .readBody → s.rxFill = 0

/-- R42 (e): a decoded payload has at most 244 bytes. -/
abbrev State.InvFrame (s : State) : Prop := s.rxValid = true → s.rxPlen.toNat ≤ 244

/-- The invariants of 10_state.md R42. -/
abbrev State.Inv (s : State) : Prop :=
  s.InvIdleFramer ∧ s.InvStaging ∧ s.InvBody ∧ s.InvNoBody ∧ s.InvFrame

/-- Quiescent: IDLE and CMD empty (R188). -/
abbrev State.Quiescent (s : State) : Prop := s.rxState = .idle ∧ s.cmd = []

/-- Waiting: a receive in progress and RXI empty (R188). -/
abbrev State.Waiting (s : State) : Prop := s.rxState ≠ .idle ∧ s.rxi = []

/-- A run is over when the engine has no enabled step (R188). -/
abbrev State.Over (s : State) : Prop := s.Quiescent ∨ s.Waiting

/-- k engine steps. -/
def runSteps : Nat → State → Host.Outcome State Fault Refusal
  | 0, s => .next s
  | k + 1, s =>
    match step s with
    | .next s1 => runSteps k s1
    | .fault r => .fault r
    | .refused r => .refused r

/-- Commands executed one after another, each from the state the last one left. -/
def execAll : List Instr → State → Host.Outcome State Fault Refusal
  | [], s => .next s
  | i :: is, s =>
    match exec i s with
    | .next s1 => execAll is s1
    | .fault r => .fault r
    | .refused r => .refused r

/-- The states of a block built with the parameters c: from the launch state with empty ports (R236), by engine steps and
the moves of the outside agents (R245). -/
inductive Reachable (c : Config) : State → Prop where
  | start : Reachable c (State.resetWith c)
  | engine {s t : State} : Reachable c s → step s = .next t → Reachable c t
  | outside {s t : State} (m : Move) : Reachable c s → m.apply s = some t → Reachable c t

/-- How many completion words RSP holds (30_encoding.md R80). -/
def State.completions (s : State) : Nat := s.rsp.countP isCompletion

/-- 1 while a receive is in progress and its command has no completion word yet, else 0 (43_control.md R182). -/
def State.pending (s : State) : Nat := if s.rxState = .idle then 0 else 1

/-- Two arrays agree below an index. -/
def AgreeBelow (n : Nat) (a b : List Byte) : Prop := ∀ i, i < n → a[i]? = b[i]?

/-- Two states that differ only where no rule reads before it writes (10_state.md R33, R35, R36, R38, R43;
70_reset_and_hazards.md R231): array entries not written, RX_L and RX_LC before they are read in the receive, and the
decoded-frame registers while RX_VALID = 0. -/
structure State.SameVisible (s t : State) : Prop where
  cfg : s.cfg = t.cfg
  cmd : s.cmd = t.cmd
  rsp : s.rsp = t.rsp
  txo : s.txo = t.txo
  rxi : s.rxi = t.rxi
  crcAcc : s.crcAcc = t.crcAcc
  txCtr : s.txCtr = t.txCtr
  txStaging : s.txStaging = t.txStaging
  txType : s.txType = t.txType
  txLen : s.txLen = t.txLen
  txFill : s.txFill = t.txFill
  txBuf : AgreeBelow s.txFill.toNat s.txBuf.toList t.txBuf.toList
  rxState : s.rxState = t.rxState
  rxL : s.rxState = .readLenc ∨ s.rxState = .readBody → s.rxL = t.rxL
  rxLc : s.rxState = .readBody → s.rxLc = t.rxLc
  rxFill : s.rxFill = t.rxFill
  rxBody : AgreeBelow s.rxFill.toNat s.rxBody.toList t.rxBody.toList
  rxValid : s.rxValid = t.rxValid
  rxCtr : s.rxValid = true → s.rxCtr = t.rxCtr
  rxType : s.rxValid = true → s.rxType = t.rxType
  rxPlen : s.rxValid = true → s.rxPlen = t.rxPlen
  rxPayload : s.rxValid = true → AgreeBelow s.rxPlen.toNat s.rxPayload.toList t.rxPayload.toList

/-- Two outcomes that no observer can tell apart. -/
def SameOutcome : Host.Outcome State Fault Refusal → Host.Outcome State Fault Refusal → Prop
  | .next s, .next t => s.SameVisible t
  | .fault a, .fault b => a = b
  | .refused a, .refused b => a = b
  | _, _ => False

/-- The framer's registers, which only TX_BEGIN, TX_DATA, TX_ABORT and reset write (10_state.md R28 to R33). -/
structure FramerRegs where
  ctr : Word
  staging : Bool
  type : Half
  len : Byte
  fill : Byte
  buf : Vector Byte 244
deriving DecidableEq, Repr

/-- The framer's registers of a state. -/
def State.framer (s : State) : FramerRegs :=
  ⟨s.txCtr, s.txStaging, s.txType, s.txLen, s.txFill, s.txBuf⟩

/-- The decoded-frame registers, which only the emit step writes (10_state.md R38). -/
structure FrameRegs where
  ctr : Word
  type : Half
  plen : Byte
  payload : Vector Byte 244
deriving DecidableEq, Repr

/-- The decoded-frame registers of a state. -/
def State.frameRegs (s : State) : FrameRegs := ⟨s.rxCtr, s.rxType, s.rxPlen, s.rxPayload⟩

/-- The reader's own registers (10_state.md R34 to R36). -/
structure ReaderRegs where
  state : RxState
  l : Byte
  lc : Byte
  fill : Byte
  body : Vector Byte 255
deriving DecidableEq, Repr

/-- The reader's own registers of a state. -/
def State.reader (s : State) : ReaderRegs := ⟨s.rxState, s.rxL, s.rxLc, s.rxFill, s.rxBody⟩

/-- A frame on the wire as RXI items. -/
def onWire (f : List Byte) : List RxItem := f.map .byte

/-- A frame with bit j of its byte k flipped (42_reader.md R158). -/
def flipBit (f : List Byte) (k j : Nat) : List Byte := f.modify k (· ^^^ (1 <<< j))

/-- The next state in which nothing but one more response word has changed. -/
def State.answered (s : State) (w : RspWord) : Host.Outcome State Fault Refusal :=
  .next { s with rsp := s.rsp ++ [w] }

/-- What a command does to the host's accumulator: only CRC_CLEAR and CRC_FEED write it (10_state.md R27). -/
def crcEffect (c : Config) (acc : Half) (i : Instr) : Half :=
  match i with
  | .nop => acc
  | .crcClear => c.crcInit
  | .crcFeed b => crcStep c.crcPoly acc b
  | .txBegin _ _ => acc
  | .txData _ => acc
  | .txAbort => acc
  | .rxRecv => acc
  | .rxRead _ => acc
  | .regRead _ => acc

/-- A word that decodes to nothing because of a reserved bit, and whose command step completes with IllegalCommand and
has no other effect (30_encoding.md R76, 43_control.md R184). -/
def ReservedBitRefused (w : CmdWord) : Prop :=
  decode w = .error .reservedBitSet ∧
  ∀ (s : State) (rest : List CmdWord), s.rxState = .idle → s.cmd = w :: rest →
    step s = ({ s with cmd := rest } : State).answered 0x10000000

/-- Among the words of opcode op, the one with [23:0] = 0 is the command i, and every other is illegal (format N,
30_encoding.md R71, R76). -/
def EncodedN (op : Byte) (i : Instr) : Prop :=
  ∀ w : CmdWord, opField w = op →
    (w.extractLsb' 0 24 = 0 → decode w = .ok i) ∧ (w.extractLsb' 0 24 ≠ 0 → ReservedBitRefused w)

/-- The words of opcode op with [23:8] = 0 are the command with operand [7:0], and the others are illegal (formats B and
A, R72, R74, R76). -/
def EncodedB (op : Byte) (mk : Byte → Instr) : Prop :=
  ∀ w : CmdWord, opField w = op →
    (w.extractLsb' 8 16 = 0 → decode w = .ok (mk (w.extractLsb' 0 8))) ∧
    (w.extractLsb' 8 16 ≠ 0 → ReservedBitRefused w)

/-- Every word of opcode op is the command with TYPE = [15:0] and LEN = [23:16] (format T, R73). -/
def EncodedT (op : Byte) (mk : Half → Byte → Instr) : Prop :=
  ∀ w : CmdWord, opField w = op → decode w = .ok (mk (w.extractLsb' 0 16) (w.extractLsb' 16 8))

end Sys2Proof.Machine
end

