-- ==== Sys2Proof/Certificates/Slice0/Obligations.lean ====
section
/-!
DEFINITION. The statements for the provers. Where a statement says `s.answered w`, nothing but the response word w has
changed; where it writes a record update, every field not named is unchanged: that is its frame.
-/
open Sys2Proof Sys2Proof.Machine

/-! Encodings (30_encoding.md). -/

/-- Every command is read back from its word (R70 to R77). -/
def Obligations.DecodeOfEncode : Prop := ∀ i : Instr, decode (encode i) = .ok i

/-- A word that decodes is the word of the command it decodes to: no two words mean one command (R75, R76). -/
def Obligations.EncodeOfDecode : Prop := ∀ (w : CmdWord) (i : Instr), decode w = .ok i → encode i = w

/-- R75: the nine rows, what a row's fitting means, and that at most one row fits a word. -/
def Obligations.OpcodeMapDecodesByItsOneFittingRow : Prop :=
  opcodeMap.map (fun r => (r.mnemonic, r.pattern, r.mask)) =
    [ (.nop, 0x00000000, 0xFFFFFFFF), (.crcClear, 0x01000000, 0xFFFFFFFF), (.crcFeed, 0x02000000, 0xFFFFFF00),
      (.txBegin, 0x10000000, 0xFF000000), (.txData, 0x11000000, 0xFFFFFF00), (.txAbort, 0x12000000, 0xFFFFFFFF),
      (.rxRecv, 0x20000000, 0xFFFFFFFF), (.rxRead, 0x21000000, 0xFFFFFF00), (.regRead, 0x30000000, 0xFFFFFF00) ] ∧
  (∀ (w : CmdWord) (i : Instr), decode w = .ok i ↔
    ∃ r ∈ opcodeMap, w &&& r.mask = r.pattern ∧ i = r.mnemonic.withOperands w) ∧
  ∀ (w : CmdWord), ∀ r ∈ opcodeMap, ∀ q ∈ opcodeMap,
    w &&& r.mask = r.pattern → w &&& q.mask = q.pattern → r = q

/-- R76, R184: which words are illegal, read field by field, and what the step on one does. -/
def Obligations.IllegalWordsCompleteAndDoNothingElse : Prop :=
  (∀ op : Byte, formatOf op = none ↔ op ∉ [(0x00 : Byte), 0x01, 0x02, 0x10, 0x11, 0x12, 0x20, 0x21, 0x30]) ∧
  (∀ w : CmdWord, (∃ e, decode w = .error e) ↔
    (formatOf (opField w) = none ∨ ∃ f, formatOf (opField w) = some f ∧ reservedClear f w = false)) ∧
  ∀ (s : State) (w : CmdWord) (rest : List CmdWord),
    s.rxState = .idle → s.cmd = w :: rest → wordWellFormed w = false →
    step s = ({ s with cmd := rest } : State).answered 0x10000000

/-- Words written out from R75 and R84, one for each format and unit, decode to the commands they stand for. -/
def Obligations.WrittenWordsDecode : Prop :=
  decode 0x00000000 = .ok .nop ∧ decode 0x01000000 = .ok .crcClear ∧ decode 0x02000031 = .ok (.crcFeed 0x31) ∧
  decode 0x10004001 = .ok (.txBegin 0x4001 0) ∧ decode 0x10F48800 = .ok (.txBegin 0x8800 244) ∧
  decode 0x110000AA = .ok (.txData 0xAA) ∧ decode 0x12000000 = .ok .txAbort ∧ decode 0x20000000 = .ok .rxRecv ∧
  decode 0x21000003 = .ok (.rxRead 3) ∧ decode 0x30000001 = .ok (.regRead 1)

/-- The assembler's examples (R84) and the pseudo-instructions' expansions (R85), on the model's assembler (log 10). -/
def Obligations.AssemblerExamplesAssemble : Prop :=
  assemble "TX_BEGIN 0x4001, 0".toList = .ok (.txBegin 0x4001 0) ∧
  assemble "TX_DATA 0xAA".toList = .ok (.txData 0xAA) ∧
  assemble "CRC_FEED 0x31".toList = .ok (.crcFeed 0x31) ∧
  assemble "REG_READ TX_CTR_LO".toList = .ok (.regRead 0x01) ∧
  assemble "RX_READ 3".toList = .ok (.rxRead 3) ∧
  pseudoCrcRead = [.regRead 0x00] ∧
  pseudoCrc [0x31, 0x32] = [.crcClear, .crcFeed 0x31, .crcFeed 0x32] ∧
  pseudoTxSend 0x0202 [0x01, 0x02] = some [.txBegin 0x0202 2, .txData 0x01, .txData 0x02] ∧
  pseudoTxCtrRead = [.regRead 0x01, .regRead 0x02] ∧
  pseudoRxFrameReads 2 = [.regRead 0x09, .regRead 0x0A, .regRead 0x0B, .rxRead 0, .rxRead 1]

/-! The engine step (43_control.md). -/

/-- A command step runs the decoded command on the state whose CMD it was taken from (R180, R181). -/
def Obligations.StepRunsTheDecodedCommand : Prop :=
  ∀ (s : State) (w : CmdWord) (rest : List CmdWord) (i : Instr),
    s.rxState = .idle → s.cmd = w :: rest → decode w = .ok i → step s = exec i { s with cmd := rest }

/-- The step stops exactly where R181 gives the engine none, and never refuses (R188; that it stops with a fault is log 4). -/
def Obligations.StepStopsExactlyWhenOver : Prop :=
  ∀ s : State,
    (s.Quiescent → step s = .fault .quiescent) ∧ (s.Waiting → step s = .fault .waiting) ∧
    (¬ s.Over → ∃ t, step s = .next t)

/-- Every command completes its command step in every state: no command stops the machine (R181, 60_exceptions.md R200). -/
def Obligations.EveryCommandAnswersNext : Prop := ∀ (i : Instr) (s : State), ∃ t, exec i s = .next t

/-- R21 to R24, R61: each step takes one word from the head of CMD while IDLE, or one item from the head of RXI during a
receive, and only appends to RSP and TXO, to RSP at most one word. -/
def Obligations.PortsAreFirstInFirstOut : Prop :=
  ∀ s t : State, step s = .next t →
    ((s.rxState = .idle ∧ (∃ w, s.cmd = w :: t.cmd) ∧ t.rxi = s.rxi) ∨
     (s.rxState ≠ .idle ∧ (∃ x, s.rxi = x :: t.rxi) ∧ t.cmd = s.cmd)) ∧
    (∃ r, t.rsp = s.rsp ++ r ∧ r.length ≤ 1) ∧ (∃ o, t.txo = s.txo ++ o)

/-- R182: completion words, the receive in progress and the commands not yet taken add up to the same number before and
after every step, so that each command taken gets exactly one completion word. -/
def Obligations.OneCompletionForEachCommand : Prop :=
  ∀ s t : State, step s = .next t →
    t.completions + t.pending + t.cmd.length = s.completions + s.pending + s.cmd.length

/-- R189: each step uses up one command word or one item and adds none, so every run ends, and ends over (R188). -/
def Obligations.EveryRunEndsOver : Prop :=
  (∀ s t : State, step s = .next t →
    (s.rxState = .idle → t.cmd.length + 1 = s.cmd.length ∧ t.rxi.length = s.rxi.length) ∧
    (s.rxState ≠ .idle → t.rxi.length + 1 = s.rxi.length ∧ t.cmd.length = s.cmd.length)) ∧
  ∀ s : State, ∃ k t, k ≤ s.cmd.length + s.rxi.length ∧ runSteps k s = .next t ∧ t.Over

/-- R80 to R83: the only words a step appends to RSP are completion words of R82's codes, with DATA 0 unless the code is
OK, and SKIP events. -/
def Obligations.OnlyDefinedResponseWordsAreProduced : Prop :=
  ∀ s t : State, step s = .next t → ∀ r, t.rsp = s.rsp ++ r → ∀ w ∈ r,
    (∃ d : BitVec 24, w = d.zeroExtend 32) ∨
    w ∈ [(0x01000000 : RspWord), 0x02000000, 0x03000000, 0x04000000, 0x05000000, 0x06000000, 0x07000000,
         0x10000000, 0x11000000, 0x12000000, 0x13000000] ∨
    ∃ b : Byte, w = 0x81000000 ||| b.zeroExtend 32

/-- NOP (R183). -/
def Obligations.NopOnlyCompletes : Prop :=
  EncodedN 0x00 .nop ∧ ∀ s : State, exec .nop s = s.answered 0x00000000

/-- REG_READ (R185): the register map of 10_state.md R39, register by register; the guarded ones with and without a frame;
BadAddress for every other address. -/
def Obligations.RegReadAnswersTheRegisterMap : Prop :=
  EncodedB 0x30 .regRead ∧
  ∀ s : State,
    exec (.regRead 0x00) s = s.answered (s.crcAcc.zeroExtend 32) ∧
    exec (.regRead 0x01) s = s.answered ((s.txCtr.extractLsb' 0 16).zeroExtend 32) ∧
    exec (.regRead 0x02) s = s.answered ((s.txCtr.extractLsb' 16 16).zeroExtend 32) ∧
    exec (.regRead 0x03) s = s.answered (if s.txStaging then 1 else 0) ∧
    exec (.regRead 0x04) s = s.answered (s.txType.zeroExtend 32) ∧
    exec (.regRead 0x05) s = s.answered ((s.txFill.zeroExtend 32 <<< 8) ||| s.txLen.zeroExtend 32) ∧
    exec (.regRead 0x08) s = s.answered (if s.rxValid then 1 else 0) ∧
    (s.rxValid = true →
      exec (.regRead 0x09) s = s.answered ((s.rxCtr.extractLsb' 0 16).zeroExtend 32) ∧
      exec (.regRead 0x0A) s = s.answered ((s.rxCtr.extractLsb' 16 16).zeroExtend 32) ∧
      exec (.regRead 0x0B) s = s.answered (s.rxType.zeroExtend 32) ∧
      exec (.regRead 0x0C) s = s.answered (s.rxPlen.zeroExtend 32)) ∧
    (s.rxValid = false → ∀ a ∈ [(0x09 : Byte), 0x0A, 0x0B, 0x0C], exec (.regRead a) s = s.answered 0x13000000) ∧
    (∀ a : Byte, a = 0x06 ∨ a = 0x07 ∨ 0x0D ≤ a.toNat → exec (.regRead a) s = s.answered 0x12000000)

/-! The checksum unit (40_crc.md). -/

/-- CRC_CLEAR (R103). -/
def Obligations.CrcClearLoadsInit : Prop :=
  EncodedN 0x01 .crcClear ∧
  ∀ s : State, exec .crcClear s =
    ({ s with crcAcc := s.cfg.crcInit } : State).answered (s.cfg.crcInit.zeroExtend 32)

/-- CRC_FEED (R104). -/
def Obligations.CrcFeedFoldsOneByte : Prop :=
  EncodedB 0x02 .crcFeed ∧
  ∀ (s : State) (b : Byte), exec (.crcFeed b) s =
    ({ s with crcAcc := crcStep s.cfg.crcPoly s.crcAcc b } : State).answered
      ((crcStep s.cfg.crcPoly s.crcAcc b).zeroExtend 32)

/-- R106: the table form of the one-byte update, for every polynomial, and the table's entries with the default one. -/
def Obligations.CrcStepHasTableForm : Prop :=
  (∀ (poly c : Half) (b : Byte),
    crcStep poly c b = (c <<< 8) ^^^ crcTable poly ((c >>> 8).truncate 8 ^^^ b)) ∧
  crcTable 0x1021 0x00 = 0x0000 ∧ crcTable 0x1021 0x01 = 0x1021 ∧ crcTable 0x1021 0x02 = 0x2042 ∧
  crcTable 0x1021 0x80 = 0x9188 ∧ crcTable 0x1021 0xFF = 0x1EF0

/-- R109: the reference values, with the default parameters, and the check value with CRC_INIT = 0. -/
def Obligations.CrcReferenceValues : Prop :=
  crc16 Config.default [] = 0xFFFF ∧ crc16 Config.default [0x00] = 0xE1F0 ∧ crc16 Config.default [0xFF] = 0xFF00 ∧
  crc16 Config.default [0x41] = 0xB915 ∧
  crc16 Config.default [0x31, 0x32, 0x33, 0x34, 0x35, 0x36, 0x37, 0x38, 0x39] = 0x29B1 ∧
  crc16 Config.default [0xFF, 0xFF] = 0x0000 ∧
  crc16 { Config.default with crcInit := 0x0000 } [0x31, 0x32, 0x33, 0x34, 0x35, 0x36, 0x37, 0x38, 0x39] = 0x31C3

/-- R105: after CRC_CLEAR and a CRC_FEED for each byte the accumulator and the last completion hold the checksum; and in
any sequence of commands the accumulator is what the checksum commands among them make it, whatever stands between. -/
def Obligations.CrcCommandsComputeTheChecksum : Prop :=
  (∀ (s : State) (bs : List Byte), ∃ t : State,
    execAll (pseudoCrc bs) s = .next t ∧ t = { s with crcAcc := crc16 s.cfg bs, rsp := t.rsp } ∧
    t.rsp.length = s.rsp.length + 1 + bs.length ∧ t.rsp.getLast? = some ((crc16 s.cfg bs).zeroExtend 32)) ∧
  ∀ (is : List Instr) (s t : State), execAll is s = .next t → t.crcAcc = is.foldl (crcEffect s.cfg) s.crcAcc

/-- R107: with a non-zero polynomial, changing exactly one bit of a byte sequence changes its checksum. -/
def Obligations.CrcDetectsEverySingleBitChange : Prop :=
  ∀ (c : Config) (s : List Byte) (k j : Nat),
    c.crcPoly ≠ 0 → k < s.length → j < 8 → crc16 c (flipBit s k j) ≠ crc16 c s

/-- R27, R102: a step changes CRC_ACC only when it takes CRC_CLEAR or CRC_FEED. -/
def Obligations.CrcAccIsWrittenByChecksumCommandsOnly : Prop :=
  ∀ s t : State, step s = .next t → t.crcAcc ≠ s.crcAcc →
    ∃ w rest, s.rxState = .idle ∧ s.cmd = w :: rest ∧ (decode w = .ok .crcClear ∨ ∃ b, decode w = .ok (.crcFeed b))

/-! The framer (41_framer.md). -/

/-- R86, R87, R120, R121: the envelope byte by byte, its length, and its two length fields. -/
def Obligations.EnvelopeHasTheWireLayout : Prop :=
  ∀ (c : Config) (ctr : Word) (t : Half) (p : List Byte), p.length ≤ 244 →
    ∃ (l lc k0 k1 : Byte),
      l.toNat = 11 + p.length ∧ lc.toNat = 255 - l.toNat ∧
      envelope c ctr t p =
        [0xAA, l, lc, 0x00, ctr.extractLsb' 0 8, ctr.extractLsb' 8 8, ctr.extractLsb' 16 8, ctr.extractLsb' 24 8,
          0x00, t.extractLsb' 0 8, t.extractLsb' 8 8, 0x55] ++ p ++ [k0, k1] ∧
      fromLe16 k0 k1 = crc16 c ((envelope c ctr t p).take (12 + p.length)) ∧
      (envelope c ctr t p).length = 14 + p.length

/-- TX_BEGIN (R124): its four outcomes, SequenceError first (60_exceptions.md R214). -/
def Obligations.TxBeginRefusesEmitsOrOpensAStaging : Prop :=
  EncodedT 0x10 .txBegin ∧
  ∀ (s : State) (type : Half) (len : Byte),
    (s.txStaging = true → exec (.txBegin type len) s = s.answered 0x11000000) ∧
    (s.txStaging = false → 245 ≤ len.toNat → exec (.txBegin type len) s = s.answered 0x07000000) ∧
    (s.txStaging = false → len = 0 → exec (.txBegin type len) s =
      ({ s with txo := s.txo ++ envelope s.cfg s.txCtr type [], txCtr := s.txCtr + 1, txStaging := false, txType := 0,
                txLen := 0, txFill := 0 } : State).answered 0x00000000) ∧
    (s.txStaging = false → 1 ≤ len.toNat → len.toNat ≤ 244 → exec (.txBegin type len) s =
      ({ s with txStaging := true, txType := type, txLen := len, txFill := 0 } : State).answered 0x00000000)

/-- TX_DATA (R125, R127): refused when not staging, else the byte is staged, and the last one emits the frame of exactly
the bytes staged; in the states that the invariants of R42 allow. -/
def Obligations.TxDataStagesAndEmits : Prop :=
  EncodedB 0x11 .txData ∧
  ∀ (s : State) (b : Byte), s.Inv →
    (s.txStaging = false → exec (.txData b) s = s.answered 0x11000000) ∧
    (s.txStaging = true → s.txFill.toNat + 1 < s.txLen.toNat → exec (.txData b) s =
      ({ s with txBuf := setByte s.txBuf s.txFill b, txFill := s.txFill + 1 } : State).answered 0x00000000) ∧
    (s.txStaging = true → s.txFill.toNat + 1 = s.txLen.toNat → exec (.txData b) s =
      ({ s with
          txBuf := setByte s.txBuf s.txFill b
          txo := s.txo ++ envelope s.cfg s.txCtr s.txType (s.txBuf.toList.take s.txFill.toNat ++ [b])
          txCtr := s.txCtr + 1, txStaging := false, txType := 0, txLen := 0, txFill := 0 } : State).answered 0x00000000)

/-- TX_ABORT (R126). -/
def Obligations.TxAbortDiscardsTheStagedFrame : Prop :=
  EncodedN 0x12 .txAbort ∧
  ∀ s : State, exec .txAbort s =
    ({ s with txStaging := false, txType := 0, txLen := 0, txFill := 0 } : State).answered 0x00000000

/-- R23, R128, R130: a step either leaves TXO and TX_CTR alone, or puts one whole envelope carrying TX_CTR on TXO and
increments TX_CTR by 1 modulo 2^32. -/
def Obligations.CounterCountsWholeFrames : Prop :=
  ∀ s t : State, s.Inv → step s = .next t →
    (t.txo = s.txo ∧ t.txCtr = s.txCtr) ∨
    ∃ (type : Half) (p : List Byte), p.length ≤ 244 ∧
      t.txo = s.txo ++ envelope s.cfg s.txCtr type p ∧ t.txCtr = s.txCtr + 1

/-- R131: the commands of TX_SEND put exactly the envelope on TXO, or, for 245 to 255 bytes, change nothing. -/
def Obligations.TxSendEmitsTheEnvelope : Prop :=
  ∀ (s : State) (type : Half) (p : List Byte), s.Inv → s.txStaging = false →
    (p.length ≤ 244 → ∃ (is : List Instr) (t : State),
      pseudoTxSend type p = some is ∧ execAll is s = .next t ∧
      t = { s with txo := s.txo ++ envelope s.cfg s.txCtr type p, txCtr := s.txCtr + 1, txBuf := t.txBuf,
                   rsp := s.rsp ++ List.replicate (p.length + 1) 0x00000000 }) ∧
    (245 ≤ p.length → p.length ≤ 255 → ∃ is : List Instr,
      pseudoTxSend type p = some (.txBegin type (BitVec.ofNat 8 p.length) :: is) ∧
      exec (.txBegin type (BitVec.ofNat 8 p.length)) s = s.answered 0x07000000)

/-- R40, R129: a step that does not take TX_BEGIN, TX_DATA or TX_ABORT leaves the framer's registers and TXO alone: every
other command, every illegal word and every reader step. -/
def Obligations.FramerIsUntouchedByOtherSteps : Prop :=
  ∀ s t : State, step s = .next t →
    (t.framer = s.framer ∧ t.txo = s.txo) ∨
    ∃ w rest, s.rxState = .idle ∧ s.cmd = w :: rest ∧
      ((∃ type len, decode w = .ok (.txBegin type len)) ∨ (∃ b, decode w = .ok (.txData b)) ∨
        decode w = .ok .txAbort)

/-! The reader (42_reader.md). -/

/-- RX_RECV (R140): it opens a receive and pushes no completion word. -/
def Obligations.RxRecvOpensAReceive : Prop :=
  EncodedN 0x20 .rxRecv ∧
  ∀ s : State, exec .rxRecv s = .next { s with rxValid := false, rxFill := 0, rxState := .seekSync }

/-- R142: `End` in any state of a receive ends it with InputExhausted. -/
def Obligations.EndOfInputEndsTheReceive : Prop :=
  ∀ (s : State) (rest : List RxItem), s.rxState ≠ .idle → s.rxi = .endOfInput :: rest →
    step s = ({ s with rxi := rest, rxState := .idle, rxFill := 0 } : State).answered 0x01000000

/-- R143: a byte in SEEK_SYNC. -/
def Obligations.SeekSyncSkipsUntilTheSyncByte : Prop :=
  ∀ (s : State) (b : Byte) (rest : List RxItem), s.rxState = .seekSync → s.rxi = .byte b :: rest →
    (b = 0xAA → step s = .next { s with rxi := rest, rxState := .readLen }) ∧
    (b ≠ 0xAA → step s = ({ s with rxi := rest } : State).answered (0x81000000 ||| b.zeroExtend 32))

/-- R144: a byte in READ_LEN. -/
def Obligations.ReadLenKeepsTheLength : Prop :=
  ∀ (s : State) (b : Byte) (rest : List RxItem), s.rxState = .readLen → s.rxi = .byte b :: rest →
    step s = .next { s with rxi := rest, rxL := b, rxState := .readLenc }

/-- R145, R148: a byte in READ_LENC; a length of 0 is malformed at once. -/
def Obligations.ReadLencChecksTheComplement : Prop :=
  ∀ (s : State) (b : Byte) (rest : List RxItem), s.rxState = .readLenc → s.rxi = .byte b :: rest →
    (s.rxL.toNat + b.toNat ≠ 255 → step s =
      ({ s with rxi := rest, rxLc := b, rxState := .idle, rxFill := 0 } : State).answered 0x02000000) ∧
    (s.rxL.toNat + b.toNat = 255 → s.rxL = 0 → step s =
      ({ s with rxi := rest, rxLc := b, rxState := .idle, rxFill := 0 } : State).answered 0x06000000) ∧
    (s.rxL.toNat + b.toNat = 255 → s.rxL ≠ 0 → step s =
      .next { s with rxi := rest, rxLc := b, rxState := .readBody })

/-- R146: a body byte that is not the last. -/
def Obligations.ReadBodyStoresTheByte : Prop :=
  ∀ (s : State) (b : Byte) (rest : List RxItem), s.rxState = .readBody → s.rxi = .byte b :: rest →
    s.rxFill.toNat + 1 < s.rxL.toNat →
    step s = .next { s with rxi := rest, rxBody := setByte s.rxBody s.rxFill b, rxFill := s.rxFill + 1 }

/-- R146 to R153: the last body byte. A body of one byte is malformed; else the checksum is judged, then the length, then
version, flags and start marker, in this order; and a frame that passes is kept, its payload in RX_PAYLOAD[0..n-1] and the
other entries unchanged. -/
def Obligations.LastBodyByteValidatesInOrder : Prop :=
  ∀ (s : State) (b : Byte) (rest : List RxItem), s.rxState = .readBody → s.rxi = .byte b :: rest →
    s.rxFill.toNat + 1 = s.rxL.toNat →
    let u : State :=
      { s with rxi := rest, rxBody := setByte s.rxBody s.rxFill b, rxState := .idle, rxFill := 0 }
    (s.rxL.toNat = 1 → step s = u.answered 0x06000000) ∧
    ∀ (front : List Byte) (k0 k1 : Byte),
      s.rxBody.toList.take s.rxFill.toNat ++ [b] = front ++ [k0, k1] →
      (crc16 s.cfg ([0xAA, s.rxL, s.rxLc] ++ front) ≠ fromLe16 k0 k1 → step s = u.answered 0x03000000) ∧
      (crc16 s.cfg ([0xAA, s.rxL, s.rxLc] ++ front) = fromLe16 k0 k1 →
        (front.length < 9 → step s = u.answered 0x06000000) ∧
        ∀ (v c0 c1 c2 c3 f t0 t1 x : Byte) (p : List Byte),
          front = [v, c0, c1, c2, c3, f, t0, t1, x] ++ p →
          (v ≠ 0x00 → step s = u.answered 0x04000000) ∧
          (v = 0x00 → f ≠ 0x00 → step s = u.answered 0x05000000) ∧
          (v = 0x00 → f = 0x00 → x ≠ 0x55 → step s = u.answered 0x06000000) ∧
          (v = 0x00 → f = 0x00 → x = 0x55 → ∃ q : Vector Byte 244,
            q.toList.take p.length = p ∧
            (∀ i, p.length ≤ i → q.toList[i]? = s.rxPayload.toList[i]?) ∧
            step s =
              ({ u with rxCtr := fromLe32 c0 c1 c2 c3, rxType := fromLe16 t0 t1, rxPlen := BitVec.ofNat 8 p.length,
                        rxPayload := q, rxValid := true } : State).answered (BitVec.ofNat 32 p.length)))

/-- R154: the reader steps of a receive compute the whole-receive function: its events and its completion word go to RSP,
exactly the items it consumes leave RXI, and nothing outside the reader changes. -/
def Obligations.ReaderStepsComputeReceive : Prop :=
  ∀ s : State, s.rxState = .seekSync → s.rxFill = 0 →
    ∃ t : State,
      runSteps (receive s.cfg s.rxi).consumed s = .next t ∧
      t.rsp = s.rsp ++ (receive s.cfg s.rxi).events ++ (receive s.cfg s.rxi).outcome.completion ∧
      t.rxi = s.rxi.drop (receive s.cfg s.rxi).consumed ∧
      t.cfg = s.cfg ∧ t.cmd = s.cmd ∧ t.txo = s.txo ∧ t.crcAcc = s.crcAcc ∧ t.framer = s.framer ∧
      match (receive s.cfg s.rxi).outcome with
      | .blocked => t.Waiting ∧ t.rxValid = s.rxValid ∧ t.frameRegs = s.frameRegs
      | .failed _ => t.rxState = .idle ∧ t.rxFill = 0 ∧ t.rxValid = s.rxValid ∧ t.frameRegs = s.frameRegs
      | .ok f => t.rxState = .idle ∧ t.rxFill = 0 ∧ t.rxValid = true ∧ t.rxCtr = f.counter ∧
          t.rxType = f.messageType ∧ t.rxPlen.toNat = f.payload.length ∧
          t.rxPayload.toList.take f.payload.length = f.payload

/-- R156: what each outcome consumes, for a receive that skips the bytes g before its sync byte. -/
def Obligations.ReceiveConsumesByOutcome : Prop :=
  ∀ (c : Config),
    (∀ (g : List Byte) (l lc : Byte) (rest : List RxItem), (∀ b ∈ g, b ≠ 0xAA) → l.toNat + lc.toNat ≠ 255 →
      receive c (onWire (g ++ [0xAA, l, lc]) ++ rest) =
        ⟨g.map skipWord, .failed .lengthComplementMismatch, g.length + 3⟩) ∧
    (∀ (g : List Byte) (l lc : Byte) (body : List Byte) (rest : List RxItem), (∀ b ∈ g, b ≠ 0xAA) →
      l.toNat + lc.toNat = 255 → body.length = l.toNat →
      receive c (onWire (g ++ [0xAA, l, lc] ++ body) ++ rest) =
        ⟨g.map skipWord, (validateBody c l lc body).outcome, g.length + 3 + l.toNat⟩) ∧
    (∀ items : List RxItem, (receive c items).outcome = .failed .inputExhausted →
      ∃ pre post, items = pre ++ .endOfInput :: post ∧ .endOfInput ∉ pre ∧
        (receive c items).consumed = pre.length + 1)

/-- R157, R159: a frame the framer builds, after garbage without a sync byte, is received as it was sent; each byte of
the garbage gets one SKIP event, and the frame is consumed exactly. Without garbage this is R157. -/
def Obligations.FramesRoundTripAfterGarbage : Prop :=
  ∀ (s : State) (g : List Byte) (ctr : Word) (t : Half) (p : List Byte) (rest : List RxItem),
    (∀ b ∈ g, b ≠ 0xAA) → p.length ≤ 244 →
    s.rxi = onWire (g ++ envelope s.cfg ctr t p) ++ rest →
    ∃ u v : State,
      exec .rxRecv s = .next u ∧ runSteps (g.length + (14 + p.length)) u = .next v ∧
      v.rsp = s.rsp ++ g.map (fun b => 0x81000000 ||| b.zeroExtend 32) ++ [BitVec.ofNat 32 p.length] ∧
      v.rxi = rest ∧ v.rxState = .idle ∧ v.rxValid = true ∧ v.rxCtr = ctr ∧ v.rxType = t ∧
      v.rxPlen.toNat = p.length ∧ v.rxPayload.toList.take p.length = p ∧
      v.cfg = s.cfg ∧ v.cmd = s.cmd ∧ v.txo = s.txo ∧ v.crcAcc = s.crcAcc ∧ v.framer = s.framer

/-- R158: one flipped bit of a frame, by the byte it is in. -/
def Obligations.SingleBitCorruptionIsReported : Prop :=
  ∀ (c : Config) (ctr : Word) (t : Half) (p : List Byte) (k j : Nat) (rest : List RxItem),
    c.crcPoly ≠ 0 → p.length ≤ 244 → j < 8 →
    (k = 0 → (receive c (onWire (flipBit (envelope c ctr t p) k j) ++ rest)).events.head? =
      some (skipWord (0xAA ^^^ (1 <<< j)))) ∧
    (k = 1 ∨ k = 2 → receive c (onWire (flipBit (envelope c ctr t p) k j) ++ rest) =
      ⟨[], .failed .lengthComplementMismatch, 3⟩) ∧
    (3 ≤ k → k < 14 + p.length → receive c (onWire (flipBit (envelope c ctr t p) k j) ++ rest) =
      ⟨[], .failed .checksumMismatch, 14 + p.length⟩)

/-- RX_READ (R155): NoFrame first, then BadAddress, then the payload byte; in the states R42 (e) allows. -/
def Obligations.RxReadAnswersThePayloadByte : Prop :=
  EncodedB 0x21 .rxRead ∧
  ∀ (s : State) (a : Byte), s.InvFrame →
    (s.rxValid = false → exec (.rxRead a) s = s.answered 0x13000000) ∧
    (s.rxValid = true → s.rxPlen.toNat ≤ a.toNat → exec (.rxRead a) s = s.answered 0x12000000) ∧
    (s.rxValid = true → a.toNat < s.rxPlen.toNat → ∃ b : Byte,
      s.rxPayload.toList[a.toNat]? = some b ∧ exec (.rxRead a) s = s.answered (b.zeroExtend 32))

/-- R58: REG_READ and RX_READ change nothing but RSP, and read the same again. -/
def Obligations.ReadsHaveNoSideEffect : Prop :=
  ∀ (s : State) (i : Instr), (∃ a, i = .regRead a ∨ i = .rxRead a) →
    ∃ w : RspWord, exec i s = s.answered w ∧
      ∀ r : List RspWord, exec i { s with rsp := r } = ({ s with rsp := r } : State).answered w

/-- R38, R40, R153: the decoded-frame registers and VALID change only in the two steps that may write them: the taking of
RX_RECV, which clears VALID, and the reader step that emits a frame, which ends the receive and sets VALID. -/
def Obligations.DecodedFrameIsWrittenByEmitOnly : Prop :=
  ∀ s t : State, step s = .next t →
    (t.frameRegs = s.frameRegs ∧ t.rxValid = s.rxValid) ∨
    (t.frameRegs = s.frameRegs ∧ t.rxValid = false ∧ t.rxState = .seekSync ∧
      ∃ w rest, s.rxState = .idle ∧ s.cmd = w :: rest ∧ decode w = .ok .rxRecv) ∨
    ((s.rxState = .readLenc ∨ s.rxState = .readBody) ∧ t.rxState = .idle ∧ t.rxValid = true)

/-- R140, R153, R155: no frame is visible while a receive is in progress; every step keeps it so. -/
def Obligations.NoFrameIsVisibleDuringAReceive : Prop :=
  ∀ s t : State, (s.rxState ≠ .idle → s.rxValid = false) → step s = .next t →
    (t.rxState ≠ .idle → t.rxValid = false)

/-! Invariants (10_state.md R42). -/

/-- Every engine step keeps the invariants of R42. -/
def Obligations.StepKeepsTheInvariants : Prop := ∀ s t : State, s.Inv → step s = .next t → t.Inv

/-- Every move of an outside agent keeps the invariants of R42. -/
def Obligations.MovesKeepTheInvariants : Prop := ∀ (m : Move) (s t : State), s.Inv → m.apply s = some t → t.Inv

/-- The reset state has the invariants of R42, for every choice of the parameters. -/
def Obligations.ResetHasTheInvariants : Prop := ∀ c : Config, (State.resetWith c).Inv

/-- Every reachable state of a block has the invariants of R42, its own parameters, and no visible frame during a
receive. -/
def Obligations.ReachableStatesAreSound : Prop :=
  ∀ (c : Config) (s : State), Reachable c s →
    s.Inv ∧ s.cfg = c ∧ (s.rxState ≠ .idle → s.rxValid = false)

/-! Reset and the outside agents (70_reset_and_hazards.md). -/

/-- R231: the reset values the spec gives, at the default parameters and at any others. -/
def Obligations.ResetHoldsTheSpecifiedValues : Prop :=
  State.reset.crcAcc = 0xFFFF ∧ State.reset.txCtr = 0x00000000 ∧
  ∀ c : Config,
    (State.resetWith c).crcAcc = c.crcInit ∧ (State.resetWith c).txCtr = c.counterReset ∧
    (State.resetWith c).txStaging = false ∧ (State.resetWith c).txType = 0 ∧ (State.resetWith c).txLen = 0 ∧
    (State.resetWith c).txFill = 0 ∧ (State.resetWith c).rxState = .idle ∧ (State.resetWith c).rxFill = 0 ∧
    (State.resetWith c).rxValid = false ∧ (State.resetWith c).cmd = [] ∧ (State.resetWith c).rsp = []

/-- R232 to R234: a reset in any state, a receive or a staging among them, empties CMD and RSP, leaves TXO and RXI alone,
and puts every register whose reset value is specified at that value. -/
def Obligations.ResetLeavesTheTransportAlone : Prop :=
  ∀ s : State, ∃ t : State, Move.reset.apply s = some t ∧
    t.cmd = [] ∧ t.rsp = [] ∧ t.txo = s.txo ∧ t.rxi = s.rxi ∧ t.crcAcc = s.cfg.crcInit ∧
    t.txCtr = s.cfg.counterReset ∧ t.txStaging = false ∧ t.txType = 0 ∧ t.txLen = 0 ∧ t.txFill = 0 ∧
    t.rxState = .idle ∧ t.rxFill = 0 ∧ t.rxValid = false

/-- R231, R43: what R231 calls never observable is so. Two states that differ only there take the same step, stay that
way, and every outside move keeps it so; and the reset state differs only there from any state with the specified reset
values. So nothing rests on the values the model chose (log 3). -/
def Obligations.UnspecifiedValuesAreNeverObserved : Prop :=
  (∀ s t : State, s.Inv → s.SameVisible t → SameOutcome (step s) (step t)) ∧
  (∀ (m : Move) (s t s1 : State), s.SameVisible t → m.apply s = some s1 →
    ∃ t1, m.apply t = some t1 ∧ s1.SameVisible t1) ∧
  ∀ (c : Config) (s : State),
    s.cfg = c → s.cmd = [] → s.rsp = [] → s.txo = [] → s.rxi = [] → s.crcAcc = c.crcInit → s.txCtr = c.counterReset →
    s.txStaging = false → s.txType = 0 → s.txLen = 0 → s.txFill = 0 → s.rxState = .idle → s.rxFill = 0 →
    s.rxValid = false → s.SameVisible (State.resetWith c)

/-- R245: the host and the transports move exactly the ports they own, in order, and nothing else. -/
def Obligations.OutsideMovesTouchTheirPortOnly : Prop :=
  ∀ s : State,
    (∀ w, (Move.hostWrite w).apply s = some { s with cmd := s.cmd ++ [w] }) ∧
    (∀ x, (Move.rxAppend x).apply s = some { s with rxi := s.rxi ++ [x] }) ∧
    (∀ w rest, s.rsp = w :: rest → Move.hostRead.apply s = some { s with rsp := rest }) ∧
    (∀ b rest, s.txo = b :: rest → Move.txDrain.apply s = some { s with txo := rest }) ∧
    (s.rsp = [] → Move.hostRead.apply s = none) ∧ (s.txo = [] → Move.txDrain.apply s = none)

/-- R237: the parameters are fixed when the block is built: no step and no outside move changes them (the model carries
them in the state, log 1). -/
def Obligations.ParametersNeverChange : Prop :=
  (∀ s t : State, step s = .next t → t.cfg = s.cfg) ∧
  ∀ (m : Move) (s t : State), m.apply s = some t → t.cfg = s.cfg
end

