-- ==== Sys2Proof/Laws/Bytes.lean ====
section
/-!
SUPPORT. What the operations on byte sequences give, once each: `byteAt`, `slice`, `setByte`, `le16`, `le32` and the two
readers of little-endian integers.
-/
namespace Sys2Proof.Machine

/-- Inside the sequence `byteAt` reads the byte; the free value is never seen. -/
theorem byteAt_of_lt {s : List Byte} {i : Nat} (h : i < s.length) : byteAt s i = s[i] := by
  simp [byteAt, List.getElem?_eq_getElem h]

/-- `byteAt` of a byte that a lookup finds. -/
theorem byteAt_of_getElem? {s : List Byte} {i : Nat} {b : Byte} (h : s[i]? = some b) : byteAt s i = b := by
  simp [byteAt, h]

@[simp] theorem slice_length (s : List Byte) (a b : Nat) : (slice s a b).length = b - a := by simp [slice]

/-- Inside the sequence a half-open slice is a drop and a take (00_scope.md R14). -/
theorem slice_eq_take_drop {s : List Byte} {a b : Nat} (h : b ≤ s.length) :
    slice s a b = (s.drop a).take (b - a) := by
  apply List.ext_getElem
  · simp [slice]; omega
  · intro i h1 h2
    have hi : i < b - a := by simpa using h1
    simp [slice, byteAt_of_lt (s := s) (i := a + i) (by omega)]

/-- `s[0:b]` inside the sequence is a take. -/
theorem slice_zero_eq_take {s : List Byte} {b : Nat} (h : b ≤ s.length) : slice s 0 b = s.take b := by
  simpa using slice_eq_take_drop (a := 0) h

/-- `setByte` as a list: the byte at the index is replaced, and the others stay. -/
theorem setByte_toList {n : Nat} (a : Vector Byte n) (i b : Byte) :
    (setByte a i b).toList = a.toList.set i.toNat b := by
  simp [setByte]

/-- After a byte is set at an index inside the array, the bytes up to and including it are the old ones and the new. -/
theorem setByte_take_succ {n : Nat} (a : Vector Byte n) (i b : Byte) (h : i.toNat < n) :
    (setByte a i b).toList.take (i.toNat + 1) = a.toList.take i.toNat ++ [b] := by
  rw [setByte_toList]
  have hl : i.toNat < a.toList.length := by simpa using h
  rw [List.take_succ_eq_append_getElem (by simpa using h)]
  simp [List.take_set_of_le]

@[simp] theorem le16_length (v : Half) : (le16 v).length = 2 := rfl

@[simp] theorem le32_length (v : Word) : (le32 v).length = 4 := rfl

/-- The reader's u16 is the framer's (20_memory.md R52). -/
theorem fromLe16_le16 (v : Half) : fromLe16 (v.extractLsb' 0 8) (v.extractLsb' 8 8) = v := by
  apply BitVec.eq_of_getLsbD_eq
  intro i hi
  simp only [fromLe16, BitVec.getLsbD_append, BitVec.getLsbD_extractLsb']
  by_cases h : i < 8
  · simp [h]
  · have h8 : i - 8 < 8 := by omega
    have h9 : 8 + (i - 8) = i := by omega
    simp [h, h8, h9]

/-- The reader's u32 is the framer's (20_memory.md R52). -/
theorem fromLe32_le32 (v : Word) :
    fromLe32 (v.extractLsb' 0 8) (v.extractLsb' 8 8) (v.extractLsb' 16 8) (v.extractLsb' 24 8) = v := by
  apply BitVec.eq_of_getLsbD_eq
  intro i hi
  simp only [fromLe32, BitVec.getLsbD_append, BitVec.getLsbD_extractLsb']
  by_cases h0 : i < 8
  · simp [h0]
  by_cases h1 : i < 16
  · have ha : i - 8 < 8 := by omega
    have hb : 8 + (i - 8) = i := by omega
    simp [h0, ha, hb]
  by_cases h2 : i < 24
  · have ha : ¬ i - 8 < 8 := by omega
    have hb : i - 8 - 8 < 8 := by omega
    have hc : 16 + (i - 8 - 8) = i := by omega
    simp [h0, ha, hb, hc]
  · have ha : ¬ i - 8 < 8 := by omega
    have hb : ¬ i - 8 - 8 < 8 := by omega
    have hc : i - 8 - 8 - 8 < 8 := by omega
    have hd : 24 + (i - 8 - 8 - 8) = i := by omega
    simp [h0, ha, hb, hc, hd]

end Sys2Proof.Machine
end

