-- ==== Sys2Proof/Laws/Encode.lean ====
section
/-!
SUPPORT. The fields of an encoded word, once for each format (30_encoding.md R70 to R74): the opcode field, the reserved
bits and the operand fields.
-/
namespace Sys2Proof

theorem opField_encodeN (op : Byte) : opField (encodeN op) = op := by
  ext i hi
  simp [opField, encodeN, show 24 + i < 32 by omega, BitVec.getLsbD_eq_getElem hi]

theorem reserved_encodeN (op : Byte) : (encodeN op).extractLsb' 0 24 = 0 := by
  ext i hi
  simp [encodeN, hi]

theorem opField_encodeB (op b : Byte) : opField (encodeB op b) = op := by
  ext i hi
  simp [opField, encodeB, show 24 + i < 32 by omega, BitVec.getLsbD_of_ge b (24 + i) (by omega),
    BitVec.getLsbD_eq_getElem hi]

theorem reserved_encodeB (op b : Byte) : (encodeB op b).extractLsb' 8 16 = 0 := by
  ext i hi
  simp [encodeB, show 8 + i < 24 by omega]

theorem byteField_encodeB (op b : Byte) : byteField (encodeB op b) = b := by
  ext i hi
  simp [byteField, encodeB, show i < 24 by omega, show i < 32 by omega, hi]

theorem opField_encodeT (op n : Byte) (t : Half) : opField (encodeT op n t) = op := by
  ext i hi
  simp [opField, encodeT, show 24 + i < 32 by omega, show ¬ 24 + i < 16 by omega,
    BitVec.getLsbD_of_ge n (24 + i - 16) (by omega), BitVec.getLsbD_of_ge t (24 + i) (by omega),
    BitVec.getLsbD_eq_getElem hi]

theorem lenField_encodeT (op n : Byte) (t : Half) : lenField (encodeT op n t) = n := by
  ext i hi
  simp [lenField, encodeT, show 16 + i < 24 by omega, show 16 + i < 32 by omega,
    BitVec.getLsbD_eq_getElem hi]

theorem typeField_encodeT (op n : Byte) (t : Half) : typeField (encodeT op n t) = t := by
  ext i hi
  simp [typeField, encodeT, show i < 24 by omega, show i < 32 by omega, hi]

end Sys2Proof
end

