-- ==== Sys2Proof/Laws/State.lean ====
section
/-!
SUPPORT. One lemma per field per named update of the state, each true by rfl, so that no proof unfolds a record update.
-/
namespace Sys2Proof.Machine

/-! The fields after `State.complete`. -/

@[simp] theorem State.complete_cfg (s : State) (code : StatusCode) (data : BitVec 24) : (s.complete code data).cfg = s.cfg := rfl
@[simp] theorem State.complete_cmd (s : State) (code : StatusCode) (data : BitVec 24) : (s.complete code data).cmd = s.cmd := rfl
@[simp] theorem State.complete_rsp (s : State) (code : StatusCode) (data : BitVec 24) : (s.complete code data).rsp = s.rsp ++ [completionWord code data] := rfl
@[simp] theorem State.complete_txo (s : State) (code : StatusCode) (data : BitVec 24) : (s.complete code data).txo = s.txo := rfl
@[simp] theorem State.complete_rxi (s : State) (code : StatusCode) (data : BitVec 24) : (s.complete code data).rxi = s.rxi := rfl
@[simp] theorem State.complete_crcAcc (s : State) (code : StatusCode) (data : BitVec 24) : (s.complete code data).crcAcc = s.crcAcc := rfl
@[simp] theorem State.complete_txCtr (s : State) (code : StatusCode) (data : BitVec 24) : (s.complete code data).txCtr = s.txCtr := rfl
@[simp] theorem State.complete_txStaging (s : State) (code : StatusCode) (data : BitVec 24) : (s.complete code data).txStaging = s.txStaging := rfl
@[simp] theorem State.complete_txType (s : State) (code : StatusCode) (data : BitVec 24) : (s.complete code data).txType = s.txType := rfl
@[simp] theorem State.complete_txLen (s : State) (code : StatusCode) (data : BitVec 24) : (s.complete code data).txLen = s.txLen := rfl
@[simp] theorem State.complete_txFill (s : State) (code : StatusCode) (data : BitVec 24) : (s.complete code data).txFill = s.txFill := rfl
@[simp] theorem State.complete_txBuf (s : State) (code : StatusCode) (data : BitVec 24) : (s.complete code data).txBuf = s.txBuf := rfl
@[simp] theorem State.complete_rxState (s : State) (code : StatusCode) (data : BitVec 24) : (s.complete code data).rxState = s.rxState := rfl
@[simp] theorem State.complete_rxL (s : State) (code : StatusCode) (data : BitVec 24) : (s.complete code data).rxL = s.rxL := rfl
@[simp] theorem State.complete_rxLc (s : State) (code : StatusCode) (data : BitVec 24) : (s.complete code data).rxLc = s.rxLc := rfl
@[simp] theorem State.complete_rxFill (s : State) (code : StatusCode) (data : BitVec 24) : (s.complete code data).rxFill = s.rxFill := rfl
@[simp] theorem State.complete_rxBody (s : State) (code : StatusCode) (data : BitVec 24) : (s.complete code data).rxBody = s.rxBody := rfl
@[simp] theorem State.complete_rxValid (s : State) (code : StatusCode) (data : BitVec 24) : (s.complete code data).rxValid = s.rxValid := rfl
@[simp] theorem State.complete_rxCtr (s : State) (code : StatusCode) (data : BitVec 24) : (s.complete code data).rxCtr = s.rxCtr := rfl
@[simp] theorem State.complete_rxType (s : State) (code : StatusCode) (data : BitVec 24) : (s.complete code data).rxType = s.rxType := rfl
@[simp] theorem State.complete_rxPlen (s : State) (code : StatusCode) (data : BitVec 24) : (s.complete code data).rxPlen = s.rxPlen := rfl
@[simp] theorem State.complete_rxPayload (s : State) (code : StatusCode) (data : BitVec 24) : (s.complete code data).rxPayload = s.rxPayload := rfl

/-! The fields after `State.raise`. -/

@[simp] theorem State.raise_cfg (s : State) (e : StatusCode) : (s.raise e).cfg = s.cfg := rfl
@[simp] theorem State.raise_cmd (s : State) (e : StatusCode) : (s.raise e).cmd = s.cmd := rfl
@[simp] theorem State.raise_rsp (s : State) (e : StatusCode) : (s.raise e).rsp = s.rsp ++ [completionWord e 0] := rfl
@[simp] theorem State.raise_txo (s : State) (e : StatusCode) : (s.raise e).txo = s.txo := rfl
@[simp] theorem State.raise_rxi (s : State) (e : StatusCode) : (s.raise e).rxi = s.rxi := rfl
@[simp] theorem State.raise_crcAcc (s : State) (e : StatusCode) : (s.raise e).crcAcc = s.crcAcc := rfl
@[simp] theorem State.raise_txCtr (s : State) (e : StatusCode) : (s.raise e).txCtr = s.txCtr := rfl
@[simp] theorem State.raise_txStaging (s : State) (e : StatusCode) : (s.raise e).txStaging = s.txStaging := rfl
@[simp] theorem State.raise_txType (s : State) (e : StatusCode) : (s.raise e).txType = s.txType := rfl
@[simp] theorem State.raise_txLen (s : State) (e : StatusCode) : (s.raise e).txLen = s.txLen := rfl
@[simp] theorem State.raise_txFill (s : State) (e : StatusCode) : (s.raise e).txFill = s.txFill := rfl
@[simp] theorem State.raise_txBuf (s : State) (e : StatusCode) : (s.raise e).txBuf = s.txBuf := rfl
@[simp] theorem State.raise_rxState (s : State) (e : StatusCode) : (s.raise e).rxState = s.rxState := rfl
@[simp] theorem State.raise_rxL (s : State) (e : StatusCode) : (s.raise e).rxL = s.rxL := rfl
@[simp] theorem State.raise_rxLc (s : State) (e : StatusCode) : (s.raise e).rxLc = s.rxLc := rfl
@[simp] theorem State.raise_rxFill (s : State) (e : StatusCode) : (s.raise e).rxFill = s.rxFill := rfl
@[simp] theorem State.raise_rxBody (s : State) (e : StatusCode) : (s.raise e).rxBody = s.rxBody := rfl
@[simp] theorem State.raise_rxValid (s : State) (e : StatusCode) : (s.raise e).rxValid = s.rxValid := rfl
@[simp] theorem State.raise_rxCtr (s : State) (e : StatusCode) : (s.raise e).rxCtr = s.rxCtr := rfl
@[simp] theorem State.raise_rxType (s : State) (e : StatusCode) : (s.raise e).rxType = s.rxType := rfl
@[simp] theorem State.raise_rxPlen (s : State) (e : StatusCode) : (s.raise e).rxPlen = s.rxPlen := rfl
@[simp] theorem State.raise_rxPayload (s : State) (e : StatusCode) : (s.raise e).rxPayload = s.rxPayload := rfl

/-! The fields after `State.skipEvent`. -/

@[simp] theorem State.skipEvent_cfg (s : State) (b : Byte) : (s.skipEvent b).cfg = s.cfg := rfl
@[simp] theorem State.skipEvent_cmd (s : State) (b : Byte) : (s.skipEvent b).cmd = s.cmd := rfl
@[simp] theorem State.skipEvent_rsp (s : State) (b : Byte) : (s.skipEvent b).rsp = s.rsp ++ [skipWord b] := rfl
@[simp] theorem State.skipEvent_txo (s : State) (b : Byte) : (s.skipEvent b).txo = s.txo := rfl
@[simp] theorem State.skipEvent_rxi (s : State) (b : Byte) : (s.skipEvent b).rxi = s.rxi := rfl
@[simp] theorem State.skipEvent_crcAcc (s : State) (b : Byte) : (s.skipEvent b).crcAcc = s.crcAcc := rfl
@[simp] theorem State.skipEvent_txCtr (s : State) (b : Byte) : (s.skipEvent b).txCtr = s.txCtr := rfl
@[simp] theorem State.skipEvent_txStaging (s : State) (b : Byte) : (s.skipEvent b).txStaging = s.txStaging := rfl
@[simp] theorem State.skipEvent_txType (s : State) (b : Byte) : (s.skipEvent b).txType = s.txType := rfl
@[simp] theorem State.skipEvent_txLen (s : State) (b : Byte) : (s.skipEvent b).txLen = s.txLen := rfl
@[simp] theorem State.skipEvent_txFill (s : State) (b : Byte) : (s.skipEvent b).txFill = s.txFill := rfl
@[simp] theorem State.skipEvent_txBuf (s : State) (b : Byte) : (s.skipEvent b).txBuf = s.txBuf := rfl
@[simp] theorem State.skipEvent_rxState (s : State) (b : Byte) : (s.skipEvent b).rxState = s.rxState := rfl
@[simp] theorem State.skipEvent_rxL (s : State) (b : Byte) : (s.skipEvent b).rxL = s.rxL := rfl
@[simp] theorem State.skipEvent_rxLc (s : State) (b : Byte) : (s.skipEvent b).rxLc = s.rxLc := rfl
@[simp] theorem State.skipEvent_rxFill (s : State) (b : Byte) : (s.skipEvent b).rxFill = s.rxFill := rfl
@[simp] theorem State.skipEvent_rxBody (s : State) (b : Byte) : (s.skipEvent b).rxBody = s.rxBody := rfl
@[simp] theorem State.skipEvent_rxValid (s : State) (b : Byte) : (s.skipEvent b).rxValid = s.rxValid := rfl
@[simp] theorem State.skipEvent_rxCtr (s : State) (b : Byte) : (s.skipEvent b).rxCtr = s.rxCtr := rfl
@[simp] theorem State.skipEvent_rxType (s : State) (b : Byte) : (s.skipEvent b).rxType = s.rxType := rfl
@[simp] theorem State.skipEvent_rxPlen (s : State) (b : Byte) : (s.skipEvent b).rxPlen = s.rxPlen := rfl
@[simp] theorem State.skipEvent_rxPayload (s : State) (b : Byte) : (s.skipEvent b).rxPayload = s.rxPayload := rfl

/-! The fields after `State.txPush`. -/

@[simp] theorem State.txPush_cfg (s : State) (f : List Byte) : (s.txPush f).cfg = s.cfg := rfl
@[simp] theorem State.txPush_cmd (s : State) (f : List Byte) : (s.txPush f).cmd = s.cmd := rfl
@[simp] theorem State.txPush_rsp (s : State) (f : List Byte) : (s.txPush f).rsp = s.rsp := rfl
@[simp] theorem State.txPush_txo (s : State) (f : List Byte) : (s.txPush f).txo = s.txo ++ f := rfl
@[simp] theorem State.txPush_rxi (s : State) (f : List Byte) : (s.txPush f).rxi = s.rxi := rfl
@[simp] theorem State.txPush_crcAcc (s : State) (f : List Byte) : (s.txPush f).crcAcc = s.crcAcc := rfl
@[simp] theorem State.txPush_txCtr (s : State) (f : List Byte) : (s.txPush f).txCtr = s.txCtr := rfl
@[simp] theorem State.txPush_txStaging (s : State) (f : List Byte) : (s.txPush f).txStaging = s.txStaging := rfl
@[simp] theorem State.txPush_txType (s : State) (f : List Byte) : (s.txPush f).txType = s.txType := rfl
@[simp] theorem State.txPush_txLen (s : State) (f : List Byte) : (s.txPush f).txLen = s.txLen := rfl
@[simp] theorem State.txPush_txFill (s : State) (f : List Byte) : (s.txPush f).txFill = s.txFill := rfl
@[simp] theorem State.txPush_txBuf (s : State) (f : List Byte) : (s.txPush f).txBuf = s.txBuf := rfl
@[simp] theorem State.txPush_rxState (s : State) (f : List Byte) : (s.txPush f).rxState = s.rxState := rfl
@[simp] theorem State.txPush_rxL (s : State) (f : List Byte) : (s.txPush f).rxL = s.rxL := rfl
@[simp] theorem State.txPush_rxLc (s : State) (f : List Byte) : (s.txPush f).rxLc = s.rxLc := rfl
@[simp] theorem State.txPush_rxFill (s : State) (f : List Byte) : (s.txPush f).rxFill = s.rxFill := rfl
@[simp] theorem State.txPush_rxBody (s : State) (f : List Byte) : (s.txPush f).rxBody = s.rxBody := rfl
@[simp] theorem State.txPush_rxValid (s : State) (f : List Byte) : (s.txPush f).rxValid = s.rxValid := rfl
@[simp] theorem State.txPush_rxCtr (s : State) (f : List Byte) : (s.txPush f).rxCtr = s.rxCtr := rfl
@[simp] theorem State.txPush_rxType (s : State) (f : List Byte) : (s.txPush f).rxType = s.rxType := rfl
@[simp] theorem State.txPush_rxPlen (s : State) (f : List Byte) : (s.txPush f).rxPlen = s.rxPlen := rfl
@[simp] theorem State.txPush_rxPayload (s : State) (f : List Byte) : (s.txPush f).rxPayload = s.rxPayload := rfl

/-! The fields after `State.clearStaging`. -/

@[simp] theorem State.clearStaging_cfg (s : State) : (s.clearStaging).cfg = s.cfg := rfl
@[simp] theorem State.clearStaging_cmd (s : State) : (s.clearStaging).cmd = s.cmd := rfl
@[simp] theorem State.clearStaging_rsp (s : State) : (s.clearStaging).rsp = s.rsp := rfl
@[simp] theorem State.clearStaging_txo (s : State) : (s.clearStaging).txo = s.txo := rfl
@[simp] theorem State.clearStaging_rxi (s : State) : (s.clearStaging).rxi = s.rxi := rfl
@[simp] theorem State.clearStaging_crcAcc (s : State) : (s.clearStaging).crcAcc = s.crcAcc := rfl
@[simp] theorem State.clearStaging_txCtr (s : State) : (s.clearStaging).txCtr = s.txCtr := rfl
@[simp] theorem State.clearStaging_txStaging (s : State) : (s.clearStaging).txStaging = false := rfl
@[simp] theorem State.clearStaging_txType (s : State) : (s.clearStaging).txType = 0 := rfl
@[simp] theorem State.clearStaging_txLen (s : State) : (s.clearStaging).txLen = 0 := rfl
@[simp] theorem State.clearStaging_txFill (s : State) : (s.clearStaging).txFill = 0 := rfl
@[simp] theorem State.clearStaging_txBuf (s : State) : (s.clearStaging).txBuf = s.txBuf := rfl
@[simp] theorem State.clearStaging_rxState (s : State) : (s.clearStaging).rxState = s.rxState := rfl
@[simp] theorem State.clearStaging_rxL (s : State) : (s.clearStaging).rxL = s.rxL := rfl
@[simp] theorem State.clearStaging_rxLc (s : State) : (s.clearStaging).rxLc = s.rxLc := rfl
@[simp] theorem State.clearStaging_rxFill (s : State) : (s.clearStaging).rxFill = s.rxFill := rfl
@[simp] theorem State.clearStaging_rxBody (s : State) : (s.clearStaging).rxBody = s.rxBody := rfl
@[simp] theorem State.clearStaging_rxValid (s : State) : (s.clearStaging).rxValid = s.rxValid := rfl
@[simp] theorem State.clearStaging_rxCtr (s : State) : (s.clearStaging).rxCtr = s.rxCtr := rfl
@[simp] theorem State.clearStaging_rxType (s : State) : (s.clearStaging).rxType = s.rxType := rfl
@[simp] theorem State.clearStaging_rxPlen (s : State) : (s.clearStaging).rxPlen = s.rxPlen := rfl
@[simp] theorem State.clearStaging_rxPayload (s : State) : (s.clearStaging).rxPayload = s.rxPayload := rfl

/-! The fields after `State.openStaging`. -/

@[simp] theorem State.openStaging_cfg (s : State) (type : Half) (len : Byte) : (s.openStaging type len).cfg = s.cfg := rfl
@[simp] theorem State.openStaging_cmd (s : State) (type : Half) (len : Byte) : (s.openStaging type len).cmd = s.cmd := rfl
@[simp] theorem State.openStaging_rsp (s : State) (type : Half) (len : Byte) : (s.openStaging type len).rsp = s.rsp := rfl
@[simp] theorem State.openStaging_txo (s : State) (type : Half) (len : Byte) : (s.openStaging type len).txo = s.txo := rfl
@[simp] theorem State.openStaging_rxi (s : State) (type : Half) (len : Byte) : (s.openStaging type len).rxi = s.rxi := rfl
@[simp] theorem State.openStaging_crcAcc (s : State) (type : Half) (len : Byte) : (s.openStaging type len).crcAcc = s.crcAcc := rfl
@[simp] theorem State.openStaging_txCtr (s : State) (type : Half) (len : Byte) : (s.openStaging type len).txCtr = s.txCtr := rfl
@[simp] theorem State.openStaging_txStaging (s : State) (type : Half) (len : Byte) : (s.openStaging type len).txStaging = true := rfl
@[simp] theorem State.openStaging_txType (s : State) (type : Half) (len : Byte) : (s.openStaging type len).txType = type := rfl
@[simp] theorem State.openStaging_txLen (s : State) (type : Half) (len : Byte) : (s.openStaging type len).txLen = len := rfl
@[simp] theorem State.openStaging_txFill (s : State) (type : Half) (len : Byte) : (s.openStaging type len).txFill = 0 := rfl
@[simp] theorem State.openStaging_txBuf (s : State) (type : Half) (len : Byte) : (s.openStaging type len).txBuf = s.txBuf := rfl
@[simp] theorem State.openStaging_rxState (s : State) (type : Half) (len : Byte) : (s.openStaging type len).rxState = s.rxState := rfl
@[simp] theorem State.openStaging_rxL (s : State) (type : Half) (len : Byte) : (s.openStaging type len).rxL = s.rxL := rfl
@[simp] theorem State.openStaging_rxLc (s : State) (type : Half) (len : Byte) : (s.openStaging type len).rxLc = s.rxLc := rfl
@[simp] theorem State.openStaging_rxFill (s : State) (type : Half) (len : Byte) : (s.openStaging type len).rxFill = s.rxFill := rfl
@[simp] theorem State.openStaging_rxBody (s : State) (type : Half) (len : Byte) : (s.openStaging type len).rxBody = s.rxBody := rfl
@[simp] theorem State.openStaging_rxValid (s : State) (type : Half) (len : Byte) : (s.openStaging type len).rxValid = s.rxValid := rfl
@[simp] theorem State.openStaging_rxCtr (s : State) (type : Half) (len : Byte) : (s.openStaging type len).rxCtr = s.rxCtr := rfl
@[simp] theorem State.openStaging_rxType (s : State) (type : Half) (len : Byte) : (s.openStaging type len).rxType = s.rxType := rfl
@[simp] theorem State.openStaging_rxPlen (s : State) (type : Half) (len : Byte) : (s.openStaging type len).rxPlen = s.rxPlen := rfl
@[simp] theorem State.openStaging_rxPayload (s : State) (type : Half) (len : Byte) : (s.openStaging type len).rxPayload = s.rxPayload := rfl

/-! The fields after `State.stageByte`. -/

@[simp] theorem State.stageByte_cfg (s : State) (b : Byte) : (s.stageByte b).cfg = s.cfg := rfl
@[simp] theorem State.stageByte_cmd (s : State) (b : Byte) : (s.stageByte b).cmd = s.cmd := rfl
@[simp] theorem State.stageByte_rsp (s : State) (b : Byte) : (s.stageByte b).rsp = s.rsp := rfl
@[simp] theorem State.stageByte_txo (s : State) (b : Byte) : (s.stageByte b).txo = s.txo := rfl
@[simp] theorem State.stageByte_rxi (s : State) (b : Byte) : (s.stageByte b).rxi = s.rxi := rfl
@[simp] theorem State.stageByte_crcAcc (s : State) (b : Byte) : (s.stageByte b).crcAcc = s.crcAcc := rfl
@[simp] theorem State.stageByte_txCtr (s : State) (b : Byte) : (s.stageByte b).txCtr = s.txCtr := rfl
@[simp] theorem State.stageByte_txStaging (s : State) (b : Byte) : (s.stageByte b).txStaging = s.txStaging := rfl
@[simp] theorem State.stageByte_txType (s : State) (b : Byte) : (s.stageByte b).txType = s.txType := rfl
@[simp] theorem State.stageByte_txLen (s : State) (b : Byte) : (s.stageByte b).txLen = s.txLen := rfl
@[simp] theorem State.stageByte_txFill (s : State) (b : Byte) : (s.stageByte b).txFill = s.txFill + 1 := rfl
@[simp] theorem State.stageByte_txBuf (s : State) (b : Byte) : (s.stageByte b).txBuf = setByte s.txBuf s.txFill b := rfl
@[simp] theorem State.stageByte_rxState (s : State) (b : Byte) : (s.stageByte b).rxState = s.rxState := rfl
@[simp] theorem State.stageByte_rxL (s : State) (b : Byte) : (s.stageByte b).rxL = s.rxL := rfl
@[simp] theorem State.stageByte_rxLc (s : State) (b : Byte) : (s.stageByte b).rxLc = s.rxLc := rfl
@[simp] theorem State.stageByte_rxFill (s : State) (b : Byte) : (s.stageByte b).rxFill = s.rxFill := rfl
@[simp] theorem State.stageByte_rxBody (s : State) (b : Byte) : (s.stageByte b).rxBody = s.rxBody := rfl
@[simp] theorem State.stageByte_rxValid (s : State) (b : Byte) : (s.stageByte b).rxValid = s.rxValid := rfl
@[simp] theorem State.stageByte_rxCtr (s : State) (b : Byte) : (s.stageByte b).rxCtr = s.rxCtr := rfl
@[simp] theorem State.stageByte_rxType (s : State) (b : Byte) : (s.stageByte b).rxType = s.rxType := rfl
@[simp] theorem State.stageByte_rxPlen (s : State) (b : Byte) : (s.stageByte b).rxPlen = s.rxPlen := rfl
@[simp] theorem State.stageByte_rxPayload (s : State) (b : Byte) : (s.stageByte b).rxPayload = s.rxPayload := rfl

/-! The fields after `State.emitFrame`. -/

@[simp] theorem State.emitFrame_cfg (s : State) (t : Half) (p : List Byte) : (s.emitFrame t p).cfg = s.cfg := rfl
@[simp] theorem State.emitFrame_cmd (s : State) (t : Half) (p : List Byte) : (s.emitFrame t p).cmd = s.cmd := rfl
@[simp] theorem State.emitFrame_rsp (s : State) (t : Half) (p : List Byte) : (s.emitFrame t p).rsp = s.rsp := rfl
@[simp] theorem State.emitFrame_txo (s : State) (t : Half) (p : List Byte) : (s.emitFrame t p).txo = s.txo ++ envelope s.cfg s.txCtr t p := rfl
@[simp] theorem State.emitFrame_rxi (s : State) (t : Half) (p : List Byte) : (s.emitFrame t p).rxi = s.rxi := rfl
@[simp] theorem State.emitFrame_crcAcc (s : State) (t : Half) (p : List Byte) : (s.emitFrame t p).crcAcc = s.crcAcc := rfl
@[simp] theorem State.emitFrame_txCtr (s : State) (t : Half) (p : List Byte) : (s.emitFrame t p).txCtr = s.txCtr + 1 := rfl
@[simp] theorem State.emitFrame_txStaging (s : State) (t : Half) (p : List Byte) : (s.emitFrame t p).txStaging = false := rfl
@[simp] theorem State.emitFrame_txType (s : State) (t : Half) (p : List Byte) : (s.emitFrame t p).txType = 0 := rfl
@[simp] theorem State.emitFrame_txLen (s : State) (t : Half) (p : List Byte) : (s.emitFrame t p).txLen = 0 := rfl
@[simp] theorem State.emitFrame_txFill (s : State) (t : Half) (p : List Byte) : (s.emitFrame t p).txFill = 0 := rfl
@[simp] theorem State.emitFrame_txBuf (s : State) (t : Half) (p : List Byte) : (s.emitFrame t p).txBuf = s.txBuf := rfl
@[simp] theorem State.emitFrame_rxState (s : State) (t : Half) (p : List Byte) : (s.emitFrame t p).rxState = s.rxState := rfl
@[simp] theorem State.emitFrame_rxL (s : State) (t : Half) (p : List Byte) : (s.emitFrame t p).rxL = s.rxL := rfl
@[simp] theorem State.emitFrame_rxLc (s : State) (t : Half) (p : List Byte) : (s.emitFrame t p).rxLc = s.rxLc := rfl
@[simp] theorem State.emitFrame_rxFill (s : State) (t : Half) (p : List Byte) : (s.emitFrame t p).rxFill = s.rxFill := rfl
@[simp] theorem State.emitFrame_rxBody (s : State) (t : Half) (p : List Byte) : (s.emitFrame t p).rxBody = s.rxBody := rfl
@[simp] theorem State.emitFrame_rxValid (s : State) (t : Half) (p : List Byte) : (s.emitFrame t p).rxValid = s.rxValid := rfl
@[simp] theorem State.emitFrame_rxCtr (s : State) (t : Half) (p : List Byte) : (s.emitFrame t p).rxCtr = s.rxCtr := rfl
@[simp] theorem State.emitFrame_rxType (s : State) (t : Half) (p : List Byte) : (s.emitFrame t p).rxType = s.rxType := rfl
@[simp] theorem State.emitFrame_rxPlen (s : State) (t : Half) (p : List Byte) : (s.emitFrame t p).rxPlen = s.rxPlen := rfl
@[simp] theorem State.emitFrame_rxPayload (s : State) (t : Half) (p : List Byte) : (s.emitFrame t p).rxPayload = s.rxPayload := rfl

/-! The fields after `State.endReceive`. -/

@[simp] theorem State.endReceive_cfg (s : State) (code : StatusCode) (data : BitVec 24) : (s.endReceive code data).cfg = s.cfg := rfl
@[simp] theorem State.endReceive_cmd (s : State) (code : StatusCode) (data : BitVec 24) : (s.endReceive code data).cmd = s.cmd := rfl
@[simp] theorem State.endReceive_rsp (s : State) (code : StatusCode) (data : BitVec 24) : (s.endReceive code data).rsp = s.rsp ++ [completionWord code data] := rfl
@[simp] theorem State.endReceive_txo (s : State) (code : StatusCode) (data : BitVec 24) : (s.endReceive code data).txo = s.txo := rfl
@[simp] theorem State.endReceive_rxi (s : State) (code : StatusCode) (data : BitVec 24) : (s.endReceive code data).rxi = s.rxi := rfl
@[simp] theorem State.endReceive_crcAcc (s : State) (code : StatusCode) (data : BitVec 24) : (s.endReceive code data).crcAcc = s.crcAcc := rfl
@[simp] theorem State.endReceive_txCtr (s : State) (code : StatusCode) (data : BitVec 24) : (s.endReceive code data).txCtr = s.txCtr := rfl
@[simp] theorem State.endReceive_txStaging (s : State) (code : StatusCode) (data : BitVec 24) : (s.endReceive code data).txStaging = s.txStaging := rfl
@[simp] theorem State.endReceive_txType (s : State) (code : StatusCode) (data : BitVec 24) : (s.endReceive code data).txType = s.txType := rfl
@[simp] theorem State.endReceive_txLen (s : State) (code : StatusCode) (data : BitVec 24) : (s.endReceive code data).txLen = s.txLen := rfl
@[simp] theorem State.endReceive_txFill (s : State) (code : StatusCode) (data : BitVec 24) : (s.endReceive code data).txFill = s.txFill := rfl
@[simp] theorem State.endReceive_txBuf (s : State) (code : StatusCode) (data : BitVec 24) : (s.endReceive code data).txBuf = s.txBuf := rfl
@[simp] theorem State.endReceive_rxState (s : State) (code : StatusCode) (data : BitVec 24) : (s.endReceive code data).rxState = .idle := rfl
@[simp] theorem State.endReceive_rxL (s : State) (code : StatusCode) (data : BitVec 24) : (s.endReceive code data).rxL = s.rxL := rfl
@[simp] theorem State.endReceive_rxLc (s : State) (code : StatusCode) (data : BitVec 24) : (s.endReceive code data).rxLc = s.rxLc := rfl
@[simp] theorem State.endReceive_rxFill (s : State) (code : StatusCode) (data : BitVec 24) : (s.endReceive code data).rxFill = 0 := rfl
@[simp] theorem State.endReceive_rxBody (s : State) (code : StatusCode) (data : BitVec 24) : (s.endReceive code data).rxBody = s.rxBody := rfl
@[simp] theorem State.endReceive_rxValid (s : State) (code : StatusCode) (data : BitVec 24) : (s.endReceive code data).rxValid = s.rxValid := rfl
@[simp] theorem State.endReceive_rxCtr (s : State) (code : StatusCode) (data : BitVec 24) : (s.endReceive code data).rxCtr = s.rxCtr := rfl
@[simp] theorem State.endReceive_rxType (s : State) (code : StatusCode) (data : BitVec 24) : (s.endReceive code data).rxType = s.rxType := rfl
@[simp] theorem State.endReceive_rxPlen (s : State) (code : StatusCode) (data : BitVec 24) : (s.endReceive code data).rxPlen = s.rxPlen := rfl
@[simp] theorem State.endReceive_rxPayload (s : State) (code : StatusCode) (data : BitVec 24) : (s.endReceive code data).rxPayload = s.rxPayload := rfl

/-! The fields after `State.keepFrame`. -/

@[simp] theorem State.keepFrame_cfg (s : State) (f : DecodedFrame) : (s.keepFrame f).cfg = s.cfg := rfl
@[simp] theorem State.keepFrame_cmd (s : State) (f : DecodedFrame) : (s.keepFrame f).cmd = s.cmd := rfl
@[simp] theorem State.keepFrame_rsp (s : State) (f : DecodedFrame) : (s.keepFrame f).rsp = s.rsp := rfl
@[simp] theorem State.keepFrame_txo (s : State) (f : DecodedFrame) : (s.keepFrame f).txo = s.txo := rfl
@[simp] theorem State.keepFrame_rxi (s : State) (f : DecodedFrame) : (s.keepFrame f).rxi = s.rxi := rfl
@[simp] theorem State.keepFrame_crcAcc (s : State) (f : DecodedFrame) : (s.keepFrame f).crcAcc = s.crcAcc := rfl
@[simp] theorem State.keepFrame_txCtr (s : State) (f : DecodedFrame) : (s.keepFrame f).txCtr = s.txCtr := rfl
@[simp] theorem State.keepFrame_txStaging (s : State) (f : DecodedFrame) : (s.keepFrame f).txStaging = s.txStaging := rfl
@[simp] theorem State.keepFrame_txType (s : State) (f : DecodedFrame) : (s.keepFrame f).txType = s.txType := rfl
@[simp] theorem State.keepFrame_txLen (s : State) (f : DecodedFrame) : (s.keepFrame f).txLen = s.txLen := rfl
@[simp] theorem State.keepFrame_txFill (s : State) (f : DecodedFrame) : (s.keepFrame f).txFill = s.txFill := rfl
@[simp] theorem State.keepFrame_txBuf (s : State) (f : DecodedFrame) : (s.keepFrame f).txBuf = s.txBuf := rfl
@[simp] theorem State.keepFrame_rxState (s : State) (f : DecodedFrame) : (s.keepFrame f).rxState = s.rxState := rfl
@[simp] theorem State.keepFrame_rxL (s : State) (f : DecodedFrame) : (s.keepFrame f).rxL = s.rxL := rfl
@[simp] theorem State.keepFrame_rxLc (s : State) (f : DecodedFrame) : (s.keepFrame f).rxLc = s.rxLc := rfl
@[simp] theorem State.keepFrame_rxFill (s : State) (f : DecodedFrame) : (s.keepFrame f).rxFill = s.rxFill := rfl
@[simp] theorem State.keepFrame_rxBody (s : State) (f : DecodedFrame) : (s.keepFrame f).rxBody = s.rxBody := rfl
@[simp] theorem State.keepFrame_rxValid (s : State) (f : DecodedFrame) : (s.keepFrame f).rxValid = true := rfl
@[simp] theorem State.keepFrame_rxCtr (s : State) (f : DecodedFrame) : (s.keepFrame f).rxCtr = f.counter := rfl
@[simp] theorem State.keepFrame_rxType (s : State) (f : DecodedFrame) : (s.keepFrame f).rxType = f.messageType := rfl
@[simp] theorem State.keepFrame_rxPlen (s : State) (f : DecodedFrame) : (s.keepFrame f).rxPlen = BitVec.ofNat 8 f.payload.length := rfl
@[simp] theorem State.keepFrame_rxPayload (s : State) (f : DecodedFrame) : (s.keepFrame f).rxPayload = storePayload s.rxPayload f.payload := rfl

/-! The fields after `State.withCommand`. -/

@[simp] theorem State.withCommand_cfg (s : State) (w : CmdWord) : (s.withCommand w).cfg = s.cfg := rfl
@[simp] theorem State.withCommand_cmd (s : State) (w : CmdWord) : (s.withCommand w).cmd = w :: s.cmd := rfl
@[simp] theorem State.withCommand_rsp (s : State) (w : CmdWord) : (s.withCommand w).rsp = s.rsp := rfl
@[simp] theorem State.withCommand_txo (s : State) (w : CmdWord) : (s.withCommand w).txo = s.txo := rfl
@[simp] theorem State.withCommand_rxi (s : State) (w : CmdWord) : (s.withCommand w).rxi = s.rxi := rfl
@[simp] theorem State.withCommand_crcAcc (s : State) (w : CmdWord) : (s.withCommand w).crcAcc = s.crcAcc := rfl
@[simp] theorem State.withCommand_txCtr (s : State) (w : CmdWord) : (s.withCommand w).txCtr = s.txCtr := rfl
@[simp] theorem State.withCommand_txStaging (s : State) (w : CmdWord) : (s.withCommand w).txStaging = s.txStaging := rfl
@[simp] theorem State.withCommand_txType (s : State) (w : CmdWord) : (s.withCommand w).txType = s.txType := rfl
@[simp] theorem State.withCommand_txLen (s : State) (w : CmdWord) : (s.withCommand w).txLen = s.txLen := rfl
@[simp] theorem State.withCommand_txFill (s : State) (w : CmdWord) : (s.withCommand w).txFill = s.txFill := rfl
@[simp] theorem State.withCommand_txBuf (s : State) (w : CmdWord) : (s.withCommand w).txBuf = s.txBuf := rfl
@[simp] theorem State.withCommand_rxState (s : State) (w : CmdWord) : (s.withCommand w).rxState = .idle := rfl
@[simp] theorem State.withCommand_rxL (s : State) (w : CmdWord) : (s.withCommand w).rxL = s.rxL := rfl
@[simp] theorem State.withCommand_rxLc (s : State) (w : CmdWord) : (s.withCommand w).rxLc = s.rxLc := rfl
@[simp] theorem State.withCommand_rxFill (s : State) (w : CmdWord) : (s.withCommand w).rxFill = 0 := rfl
@[simp] theorem State.withCommand_rxBody (s : State) (w : CmdWord) : (s.withCommand w).rxBody = s.rxBody := rfl
@[simp] theorem State.withCommand_rxValid (s : State) (w : CmdWord) : (s.withCommand w).rxValid = s.rxValid := rfl
@[simp] theorem State.withCommand_rxCtr (s : State) (w : CmdWord) : (s.withCommand w).rxCtr = s.rxCtr := rfl
@[simp] theorem State.withCommand_rxType (s : State) (w : CmdWord) : (s.withCommand w).rxType = s.rxType := rfl
@[simp] theorem State.withCommand_rxPlen (s : State) (w : CmdWord) : (s.withCommand w).rxPlen = s.rxPlen := rfl
@[simp] theorem State.withCommand_rxPayload (s : State) (w : CmdWord) : (s.withCommand w).rxPayload = s.rxPayload := rfl

end Sys2Proof.Machine
end

