-- ==== Sys2Proof/Laws/Ops.lean ====
section
/-!
SUPPORT. What each shared operation can do, said once: the engine's selection, a read of an index space, the emission of a
frame, validation, a reader step and an engine step. Proofs cite these lemmas and unfold nothing.
-/
namespace Sys2Proof.Machine

/-- Raising an error is completing with DATA 0 (60_exceptions.md R200). -/
theorem State.raise_eq (s : State) (e : StatusCode) : s.raise e = s.complete e 0 := rfl

/-- The engine's selection (43_control.md R181), as four cases. -/
theorem State.select_cases (s : State) :
    (s.rxState = .idle ∧ s.cmd = [] ∧ s.select = .idle) ∨
    (∃ w rest, s.rxState = .idle ∧ s.cmd = w :: rest ∧ s.select = .command w { s with cmd := rest }) ∨
    (s.rxState ≠ .idle ∧ s.rxi = [] ∧ s.select = .waiting) ∨
    (∃ x rest, s.rxState ≠ .idle ∧ s.rxi = x :: rest ∧ s.select = .reader x { s with rxi := rest }) := by
  by_cases hi : s.rxState = .idle
  · cases hc : s.cmd with
    | nil => exact .inl ⟨hi, rfl, by simp [State.select, hi, hc]⟩
    | cons w rest => exact .inr (.inl ⟨w, rest, hi, rfl, by simp [State.select, hi, hc]⟩)
  · cases hr : s.rxi with
    | nil => exact .inr (.inr (.inl ⟨hi, rfl, by simp [State.select, hi, hr]⟩))
    | cons x rest => exact .inr (.inr (.inr ⟨x, rest, hi, rfl, by simp [State.select, hi, hr]⟩))

/-- A read of an index space only appends one completion word (20_memory.md R58). -/
theorem State.completeRead_cases {n : Nat} (s : State) (r : ReadResult n) :
    (∃ v, r = .value v ∧ s.completeRead r = s.complete .ok (v.zeroExtend 24)) ∨
    (∃ e, r = .error e ∧ s.completeRead r = s.complete e 0) := by
  cases r with
  | value v => exact .inl ⟨v, rfl, rfl⟩
  | error e => exact .inr ⟨e, rfl, rfl⟩

/-- TX_BEGIN, as its four cases (41_framer.md R124). -/
theorem execTxBegin_cases (type : Half) (len : Byte) (s : State) :
    (s.txStaging = true ∧ execTxBegin type len s = .next (s.complete .sequenceError 0)) ∨
    (s.txStaging = false ∧ 244 < len.toNat ∧ execTxBegin type len s = .next (s.complete .payloadTooLarge 0)) ∨
    (s.txStaging = false ∧ len = 0 ∧ execTxBegin type len s = .next ((s.emitFrame type []).complete .ok 0)) ∨
    (s.txStaging = false ∧ 1 ≤ len.toNat ∧ len.toNat ≤ 244 ∧
      execTxBegin type len s = .next ((s.openStaging type len).complete .ok 0)) := by
  cases hs : s.txStaging with
  | true => exact .inl ⟨rfl, by simp [execTxBegin, hs, State.raise]⟩
  | false =>
    by_cases hl : 244 < len.toNat
    · exact .inr (.inl ⟨rfl, hl, by simp [execTxBegin, hs, maxPayload, hl, State.raise]⟩)
    · by_cases h0 : len = 0
      · subst h0
        exact .inr (.inr (.inl ⟨rfl, rfl, by simp [execTxBegin, hs, maxPayload]⟩))
      · have h1 : 1 ≤ len.toNat := by
          rcases Nat.eq_zero_or_pos len.toNat with h | h
          · exact absurd (BitVec.eq_of_toNat_eq (by simpa using h)) h0
          · exact h
        exact .inr (.inr (.inr ⟨rfl, h1, by omega, by
          simp only [execTxBegin, hs, maxPayload, if_neg hl, if_neg h0, Bool.false_eq_true, if_false, gt_iff_lt]⟩))

/-- TX_DATA, as its three cases (41_framer.md R125). -/
theorem execTxData_cases (b : Byte) (s : State) :
    (s.txStaging = false ∧ execTxData b s = .next (s.complete .sequenceError 0)) ∨
    (s.txStaging = true ∧ s.txFill + 1 ≠ s.txLen ∧ execTxData b s = .next ((s.stageByte b).complete .ok 0)) ∨
    (s.txStaging = true ∧ s.txFill + 1 = s.txLen ∧
      execTxData b s =
        .next (((s.stageByte b).emitFrame s.txType
          (slice (setByte s.txBuf s.txFill b).toList 0 s.txLen.toNat)).complete .ok 0)) := by
  cases hs : s.txStaging with
  | false => exact .inl ⟨rfl, by simp [execTxData, hs, State.raise]⟩
  | true =>
    have hn : ¬ s.txStaging = false := by simp [hs]
    by_cases hf : s.txFill + 1 = s.txLen
    · refine .inr (.inr ⟨rfl, hf, ?_⟩)
      rw [execTxData, if_neg hn]
      exact if_pos hf
    · refine .inr (.inl ⟨rfl, hf, ?_⟩)
      rw [execTxData, if_neg hn]
      exact if_neg hf

/-- Validation accepts only bodies of at least eleven bytes, and the payload then has all but eleven of them (42_reader.md
R150, R152). -/
theorem validateBody_accept {c : Config} {l lc : Byte} {body : List Byte} {f : DecodedFrame}
    (h : validateBody c l lc body = .accept f) :
    11 ≤ body.length ∧ f.payload.length = body.length - 11 := by
  by_cases h2 : body.length < 2
  · simp [validateBody, h2] at h
  by_cases hc : computedChecksum c l lc body ≠ receivedChecksum body
  · simp [validateBody, h2, hc] at h
  by_cases h11 : body.length < 11
  · simp [validateBody, h2, hc, overhead, h11] at h
  refine ⟨by omega, ?_⟩
  simp only [validateBody, if_neg h2, if_neg hc, if_neg h11, unpackFrame] at h
  split at h
  · cases h
  split at h
  · cases h
  split at h
  · cases h
  cases h
  simp
  omega

/-- A verdict carried out, in its two cases (42_reader.md R152, R153). -/
theorem State.conclude_cases (s : State) (v : Verdict) :
    (∃ f, v = .accept f ∧ s.conclude v = (s.keepFrame f).endReceive .ok (BitVec.ofNat 24 f.payload.length)) ∨
    (∃ e, v = .reject e ∧ s.conclude v = s.endReceive e 0) := by
  cases v with
  | accept f => exact .inl ⟨f, rfl, rfl⟩
  | reject e => exact .inr ⟨e, rfl, rfl⟩

/-- One reader step (42_reader.md R141 to R146), as its cases on a receive in progress. -/
theorem State.readerStep_cases (s : State) (x : RxItem) (h : s.rxState ≠ .idle) :
    (x = .endOfInput ∧ s.readerStep x = s.endReceive .inputExhausted 0) ∨
    (∃ b, x = .byte b ∧
      ((s.rxState = .seekSync ∧ s.readerStep x = s.seekSyncStep b) ∨
       (s.rxState = .readLen ∧ s.readerStep x = s.readLenStep b) ∨
       (s.rxState = .readLenc ∧ s.readerStep x = s.readLencStep b) ∨
       (s.rxState = .readBody ∧ s.readerStep x = s.readBodyStep b))) := by
  cases x with
  | endOfInput =>
    refine .inl ⟨rfl, ?_⟩
    cases hs : s.rxState <;> simp_all [State.readerStep]
  | byte b =>
    refine .inr ⟨b, rfl, ?_⟩
    cases hs : s.rxState <;> simp_all [State.readerStep]

/-- One engine step that answers a next state (43_control.md R181): a decoded command, an illegal word or a reader step. -/
theorem step_cases {s t : State} (h : step s = .next t) :
    (∃ w rest i, s.rxState = .idle ∧ s.cmd = w :: rest ∧ decode w = .ok i ∧ exec i { s with cmd := rest } = .next t) ∨
    (∃ w rest e, s.rxState = .idle ∧ s.cmd = w :: rest ∧ decode w = .error e ∧
      t = ({ s with cmd := rest } : State).complete .illegalCommand 0) ∨
    (∃ x rest, s.rxState ≠ .idle ∧ s.rxi = x :: rest ∧ t = ({ s with rxi := rest } : State).readerStep x) := by
  rcases s.select_cases with ⟨_, _, hs⟩ | ⟨w, rest, hi, hc, hs⟩ | ⟨_, _, hs⟩ | ⟨x, rest, hi, hr, hs⟩
  · simp [step, hs] at h
  · simp only [step, hs] at h
    cases hd : decode w with
    | ok i => exact .inl ⟨w, rest, i, hi, hc, hd, by simpa [hd] using h⟩
    | error e =>
      refine .inr (.inl ⟨w, rest, e, hi, hc, hd, ?_⟩)
      cases e <;> simpa [hd, execIllegal, State.raise] using h.symm
  · simp [step, hs] at h
  · refine .inr (.inr ⟨x, rest, hi, hr, ?_⟩)
    simpa [step, hs] using h.symm

end Sys2Proof.Machine
end

