-- ==== Sys2Proof/Laws/PerInstr.lean ====
section
/-!
SUPPORT. A family of statements about every command as syntax: its word is a well-formed encoding (30_encoding.md R71 to
R76), read field by field.
-/
namespace Sys2Proof.Laws.EncodesWellFormed

/-- The word of a command is no illegal encoding. -/
def Statement (i : Instr) : Prop := wordWellFormed (encode i) = true

/-- A word of an assigned opcode with its reserved bits clear is well formed (R76). -/
theorem of_fields {w : CmdWord} {f : Format} (hf : formatOf (opField w) = some f) (hr : reservedClear f w = true) :
    wordWellFormed w = true := by
  simp [wordWellFormed, illegalReason, hf, hr]

/-- A word of format B or A with an assigned opcode is well formed. -/
theorem of_byteFormat (op b : Byte) (h : formatOf op = some .B ∨ formatOf op = some .A) :
    wordWellFormed (encodeB op b) = true := by
  rcases h with h | h
  · exact of_fields (f := .B) (by rw [opField_encodeB, h]) (by simp [reservedClear, reserved_encodeB])
  · exact of_fields (f := .A) (by rw [opField_encodeB, h]) (by simp [reservedClear, reserved_encodeB])

theorem nop : Statement .nop := of_fields (f := .N) (by decide) (by decide)

theorem crcClear : Statement .crcClear := of_fields (f := .N) (by decide) (by decide)

theorem crcFeed (b : Byte) : Statement (.crcFeed b) := of_byteFormat 0x02 b (.inl rfl)

theorem txBegin (t : Half) (n : Byte) : Statement (.txBegin t n) :=
  of_fields (f := .T) (by rw [encode, opField_encodeT]; rfl) rfl

theorem txData (b : Byte) : Statement (.txData b) := of_byteFormat 0x11 b (.inl rfl)

theorem txAbort : Statement .txAbort := of_fields (f := .N) (by decide) (by decide)

theorem rxRecv : Statement .rxRecv := of_fields (f := .N) (by decide) (by decide)

theorem rxRead (a : Byte) : Statement (.rxRead a) := of_byteFormat 0x21 a (.inr rfl)

theorem regRead (a : Byte) : Statement (.regRead a) := of_byteFormat 0x30 a (.inr rfl)

end Sys2Proof.Laws.EncodesWellFormed
end

