-- ==== Sys2Proof/Tests/Slice0.lean ====
section
/-!
SUPPORT. The model's own tests. Expected values come from the spec: the worked examples of the command rules and the
vectors of 95_test_vectors.md (named by section or row). Then, for each statement with hypotheses, a state that meets them
together; the statement's name stands in the theorem's name.
-/
namespace Sys2Proof.Tests

open Sys2Proof Sys2Proof.Machine

/-! ## Ill-formed words: one for each check of WellFormed.lean (95 section 6 and 2.4). -/

theorem test_unassigned_opcode_is_ill_formed : illegalReason 0x03000000 = some .unassignedOpcode := by decide
theorem test_last_opcode_is_ill_formed : illegalReason 0xFF000000 = some .unassignedOpcode := by decide
theorem test_format_N_reserved_bit_is_ill_formed : illegalReason 0x00000001 = some .reservedBitSet := by decide
theorem test_format_N_top_reserved_bit_is_ill_formed : illegalReason 0x20800000 = some .reservedBitSet := by decide
theorem test_format_B_reserved_bit_is_ill_formed : illegalReason 0x02000100 = some .reservedBitSet := by decide
theorem test_format_B_top_reserved_bit_is_ill_formed : illegalReason 0x11800009 = some .reservedBitSet := by decide
theorem test_format_A_reserved_bit_is_ill_formed : illegalReason 0x30010000 = some .reservedBitSet := by decide
theorem test_format_T_has_no_reserved_bit : illegalReason 0x10FFFFFF = none := by decide

/-! ## Words written out from R71 to R75 decode to their commands. -/

theorem test_decode_nop : decode 0x00000000 = .ok .nop := by rfl
theorem test_decode_crcClear : decode 0x01000000 = .ok .crcClear := by rfl
theorem test_decode_crcFeed : decode 0x02000031 = .ok (.crcFeed 0x31) := by rfl
theorem test_decode_txBegin : decode 0x10004001 = .ok (.txBegin 0x4001 0) := by rfl
theorem test_decode_txBegin_len : decode 0x10F48800 = .ok (.txBegin 0x8800 0xF4) := by rfl
theorem test_decode_txData : decode 0x110000AA = .ok (.txData 0xAA) := by rfl
theorem test_decode_txAbort : decode 0x12000000 = .ok .txAbort := by rfl
theorem test_decode_rxRecv : decode 0x20000000 = .ok .rxRecv := by rfl
theorem test_decode_rxRead : decode 0x210000F3 = .ok (.rxRead 0xF3) := by rfl
theorem test_decode_regRead : decode 0x3000000B = .ok (.regRead 0x0B) := by rfl
theorem test_decode_reserved_bit : decode 0x02000100 = .error .reservedBitSet := by rfl
theorem test_decode_unassigned : decode 0x31000000 = .error .unassignedOpcode := by rfl
theorem test_table_word_decodes : decodeTableWord 32 0x10004001 = some (.txBegin 0x4001 0) := by rfl

/-! ## One step on a small state. -/

/-- What a step appended to an empty RSP, and what stands on TXO. -/
def seen (o : Host.Outcome State Fault Refusal) : Option (List RspWord × List Byte) :=
  match o with
  | .next s => some (s.rsp, s.txo)
  | .fault _ => none
  | .refused _ => none

/-- The reset state with one command word. -/
def withWord (w : CmdWord) : State := State.launch Config.default [w] []

/-- A staging of type 0x0202 with four bytes of which 01 02 03 are staged, TX_CTR = 0x12345678 (41_framer.md R125). -/
def staged3 : State :=
  { State.reset with txCtr := 0x12345678, txStaging := true, txType := 0x0202, txLen := 4, txFill := 3,
                     txBuf := Vector.ofFn fun i => [0x01, 0x02, 0x03].getD i.val 0 }

/-- A staging with the length and the fill given. -/
def stagedAt (len fill : Byte) : State := { State.reset with txStaging := true, txLen := len, txFill := fill }

/-- A receive in READ_BODY with length l, the body bytes bs read and the items x to come. -/
def reading (l : Byte) (bs : List Byte) (x : List RxItem) : State :=
  { State.reset with rxState := .readBody, rxL := l, rxLc := 255 - l, rxFill := BitVec.ofNat 8 bs.length,
                     rxBody := Vector.ofFn fun i => bs.getD i.val 0, rxi := x }

/-- A receive in the state r with RX_L = l and the items x to come. -/
def receiving (r : RxState) (l : Byte) (x : List RxItem) : State :=
  { State.reset with rxState := r, rxL := l, rxi := x }

/-- The decoded frame 0x12345678, 0x0202, 01 02 03 04 (95 program P3). -/
def holding : State :=
  { State.reset with rxValid := true, rxCtr := 0x12345678, rxType := 0x0202, rxPlen := 4,
                     rxPayload := Vector.ofFn fun i => [0x01, 0x02, 0x03, 0x04].getD i.val 0 }

/-- 95 section 6: NOP. -/
theorem test_nop : seen (step (withWord 0x00000000)) = some ([0x00000000], []) := by decide +kernel
/-- 95 section 6: NOP with a reserved bit. -/
theorem test_nop_reserved : seen (step (withWord 0x00000001)) = some ([0x10000000], []) := by decide +kernel
/-- 95 section 2.4: CRC_CLEAR. -/
theorem test_crcClear : seen (step (withWord 0x01000000)) = some ([0x0000FFFF], []) := by decide +kernel
/-- 95 section 2.4: CRC_FEED 0x41 from 0xFFFF. -/
theorem test_crcFeed : seen (step (withWord 0x02000041)) = some ([0x0000B915], []) := by decide +kernel
/-- 95 section 2.1: crc_step(0x1234, 0x56). -/
theorem test_crcStep : crcStep 0x1021 0x1234 0x56 = 0x3C40 := by decide
/-- 95 section 2.2: the check value. -/
theorem test_crc16_check_value :
    crc16 Config.default [0x31, 0x32, 0x33, 0x34, 0x35, 0x36, 0x37, 0x38, 0x39] = 0x29B1 := by decide +kernel
/-- 95 section 3.1: frame F0. -/
theorem test_txBegin_empty : seen (step (withWord 0x10004001)) =
    some ([0x00000000], [0xAA, 0x0B, 0xF4, 0, 0, 0, 0, 0, 0, 0x01, 0x40, 0x55, 0xE2, 0x21]) := by decide +kernel
/-- 95 section 3.2: TX_BEGIN 0x4001, 245. -/
theorem test_txBegin_too_large : seen (step (withWord 0x10F54001)) = some ([0x07000000], []) := by decide +kernel
/-- 95 section 3.2: the fourth TX_DATA emits F1. -/
theorem test_txData_last : seen (exec (.txData 0x04) staged3) =
    some ([0x00000000], [0xAA, 0x0F, 0xF0, 0x00, 0x78, 0x56, 0x34, 0x12, 0x00, 0x02, 0x02, 0x55, 0x01, 0x02, 0x03,
      0x04, 0x5E, 0x37]) := by decide +kernel
/-- 95 section 3.2: TX_DATA after reset. -/
theorem test_txData_not_staging : seen (step (withWord 0x11000001)) = some ([0x11000000], []) := by decide +kernel
/-- 41_framer.md R126: TX_ABORT keeps the counter. -/
theorem test_txAbort : (match exec .txAbort staged3 with
    | .next s => (s.txStaging, s.txFill, s.txCtr)
    | _ => (true, 9, 0)) = (false, 0, 0x12345678) := by decide +kernel
/-- 42_reader.md R140: RX_RECV pushes no completion word. -/
theorem test_rxRecv : (match step (withWord 0x20000000) with
    | .next s => (s.rxState, s.rsp)
    | _ => (.idle, [0])) = (.seekSync, []) := by decide +kernel
/-- 95 program P3: RX_READ 3. -/
theorem test_rxRead : seen (exec (.rxRead 3) holding) = some ([0x00000004], []) := by decide +kernel
/-- 95 program P3: RX_READ 4. -/
theorem test_rxRead_beyond : seen (exec (.rxRead 4) holding) = some ([0x12000000], []) := by decide +kernel
/-- 95 program P3: REG_READ RX_CTR_HI. -/
theorem test_regRead_rxCtrHi : seen (exec (.regRead 0x0A) holding) = some ([0x00001234], []) := by decide +kernel
/-- 10_state.md R39: TX_PROGRESS with FILL 3 and LEN 4. -/
theorem test_regRead_txProgress : seen (exec (.regRead 0x05) staged3) = some ([0x00000304], []) := by decide +kernel
/-- 95 row V8: length 0x0B, complement 0xF3. -/
theorem test_complement_mismatch :
    seen (step (receiving .readLenc 0x0B [.byte 0xF3])) = some ([0x02000000], []) := by decide +kernel
/-- 95 row V9: length 0 is malformed at once. -/
theorem test_length_zero : seen (step (receiving .readLenc 0 [.byte 0xFF])) = some ([0x06000000], []) := by
  decide +kernel
/-- 95 row V12: the checksum is judged before the short header. -/
theorem test_checksum_before_header : seen (step (reading 2 [0x00] [.byte 0x00])) = some ([0x03000000], []) := by
  decide +kernel
/-- 95 row V11: a correct checksum, then too short. -/
theorem test_short_body : seen (step (reading 2 [0x11] [.byte 0xEE])) = some ([0x06000000], []) := by decide +kernel
/-- 95 row V17: version, flags and stx all wrong. -/
theorem test_version_first :
    seen (step (reading 11 [0x01, 0, 0, 0, 0, 0x01, 0x01, 0x40, 0x54, 0x54] [.byte 0xAC])) =
      some ([0x04000000], []) := by decide +kernel
/-- 95 row V15: flags 1. -/
theorem test_flags :
    seen (step (reading 11 [0x00, 0, 0, 0, 0, 0x01, 0x01, 0x40, 0x55, 0x56] [.byte 0x57])) =
      some ([0x05000000], []) := by decide +kernel
/-- 95 row V16: start marker 0x54. -/
theorem test_stx :
    seen (step (reading 11 [0x00, 0, 0, 0, 0, 0, 0x01, 0x40, 0x54, 0xC3] [.byte 0x31])) =
      some ([0x06000000], []) := by decide +kernel
/-- 95 row V21: 0xAA and 0x55 in the body are data. -/
theorem test_emit : (match step (reading 13 [0, 0xAA, 0, 0, 0, 0, 0xAA, 0x55, 0x55, 0xAA, 0xAA, 0x7A] [.byte 0xA2]) with
    | .next s => (s.rsp, s.rxCtr, s.rxType, s.rxPlen, s.rxPayload.toList.take 2, s.rxValid)
    | _ => ([], 0, 0, 0, [], false)) = ([0x00000002], 0x000000AA, 0x55AA, 2, [0xAA, 0xAA], true) := by decide +kernel
/-- 95 row V2: a SKIP event. -/
theorem test_skip : seen (step (receiving .seekSync 0 [.byte 0x13])) = some ([0x81000013], []) := by decide +kernel
/-- 95 row V5: End in READ_BODY. -/
theorem test_end : seen (step (reading 11 [0x00, 0x00] [.endOfInput])) = some ([0x01000000], []) := by decide +kernel
/-- 30_encoding.md R84. -/
theorem test_assemble_refuses_a_wide_operand : assemble "RX_READ 256".toList = .error .outOfRange := by decide +kernel

/-- The first instruction after reset is the one the table word holds. -/
theorem test_step_runs_the_fetch_word :
    step (State.reset.withFetchWord 32 0x10F48800) = exec (.txBegin 0x8800 0xF4) State.reset := by rfl

/-! ## States that meet the statements' hypotheses together, at boundary values where a statement has several clauses. -/

theorem witness_EncodeOfDecode : decode 0x10FFFFFF = .ok (.txBegin 0xFFFF 0xFF) := by rfl

/-- One word for each opcode field that the Encoded clauses of the command statements speak of, legal and illegal. -/
theorem witness_EncodedClauses :
    opField 0x00000000 = 0x00 ∧ opField 0x00FFFFFF = 0x00 ∧ opField 0x01000000 = 0x01 ∧ opField 0x020000FF = 0x02 ∧
    opField 0x02000100 = 0x02 ∧ opField 0x10FFFFFF = 0x10 ∧ opField 0x110000FF = 0x11 ∧ opField 0x12000000 = 0x12 ∧
    opField 0x20000000 = 0x20 ∧ opField 0x210000FF = 0x21 ∧ opField 0x300000FF = 0x30 := by decide

theorem witness_OpcodeMapDecodesByItsOneFittingRow :
    (⟨.crcFeed, 0x02000000, 0xFFFFFF00⟩ : OpcodeRow) ∈ opcodeMap ∧
    (0x020000FF : CmdWord) &&& 0xFFFFFF00 = 0x02000000 := by decide

theorem witness_IllegalWordsCompleteAndDoNothingElse :
    (withWord 0x02000100).rxState = .idle ∧ (withWord 0x02000100).cmd = [0x02000100] ∧
    wordWellFormed 0x02000100 = false ∧ wordWellFormed 0x03000000 = false := by decide

theorem witness_StepRunsTheDecodedCommand :
    (withWord 0x11000001).rxState = .idle ∧ (withWord 0x11000001).cmd = [0x11000001] ∧
    decode 0x11000001 = .ok (.txData 0x01) := ⟨rfl, rfl, rfl⟩

theorem witness_StepStopsExactlyWhenOver :
    State.reset.Quiescent ∧ (receiving .seekSync 0 []).Waiting ∧ ¬ (withWord 0x00000000).Over := by decide

/-- A step that answers a next state: for every statement whose one hypothesis that is. -/
theorem witness_step_answers_next :
    (∃ t, step (withWord 0x00000000) = .next t) ∧ (∃ t, step (receiving .seekSync 0 [.byte 0xAA]) = .next t) :=
  ⟨⟨_, rfl⟩, ⟨_, rfl⟩⟩

theorem witness_OnlyDefinedResponseWordsAreProduced :
    ∃ t, step (withWord 0x00000000) = .next t ∧ t.rsp = (withWord 0x00000000).rsp ++ [0x00000000] :=
  ⟨_, rfl, by decide⟩

theorem witness_RegReadAnswersTheRegisterMap : holding.rxValid = true ∧ State.reset.rxValid = false := by decide

theorem witness_CrcCommandsComputeTheChecksum : ∃ t, execAll [.crcClear, .txAbort, .crcFeed 0x41] State.reset = .next t :=
  ⟨_, rfl⟩

theorem witness_CrcDetectsEverySingleBitChange :
    Config.default.crcPoly ≠ 0 ∧ 0 < ([0x41] : List Byte).length ∧ 7 < 8 := by decide

theorem witness_CrcAccIsWrittenByChecksumCommandsOnly :
    ∃ t, step (withWord 0x02000041) = .next t ∧ t.crcAcc ≠ (withWord 0x02000041).crcAcc :=
  ⟨_, rfl, by decide +kernel⟩

theorem witness_EnvelopeHasTheWireLayout :
    ([] : List Byte).length ≤ 244 ∧ (List.replicate 244 (0 : Byte)).length ≤ 244 := by decide +kernel

theorem witness_TxBeginRefusesEmitsOrOpensAStaging :
    staged3.txStaging = true ∧ State.reset.txStaging = false ∧ 245 ≤ (245 : Byte).toNat ∧ 1 ≤ (1 : Byte).toNat ∧
    1 ≤ (244 : Byte).toNat ∧ (244 : Byte).toNat ≤ 244 := by decide

theorem witness_TxDataStagesAndEmits :
    (State.reset.Inv ∧ State.reset.txStaging = false) ∧
    ((stagedAt 1 0).Inv ∧ (stagedAt 1 0).txStaging = true ∧ (stagedAt 1 0).txFill.toNat + 1 = (stagedAt 1 0).txLen.toNat) ∧
    ((stagedAt 2 0).Inv ∧ (stagedAt 2 0).txStaging = true ∧ (stagedAt 2 0).txFill.toNat + 1 < (stagedAt 2 0).txLen.toNat) ∧
    ((stagedAt 244 243).Inv ∧ (stagedAt 244 243).txStaging = true ∧
      (stagedAt 244 243).txFill.toNat + 1 = (stagedAt 244 243).txLen.toNat) :=
  ⟨by decide, by decide, by decide, by decide⟩

theorem witness_CounterCountsWholeFrames : State.reset.Inv ∧ ∃ t, step (withWord 0x10004001) = .next t :=
  ⟨by decide, ⟨_, rfl⟩⟩

theorem witness_TxSendEmitsTheEnvelope :
    State.reset.Inv ∧ State.reset.txStaging = false ∧ (List.replicate 244 (0 : Byte)).length ≤ 244 ∧
    245 ≤ (List.replicate 245 (0 : Byte)).length ∧ (List.replicate 255 (0 : Byte)).length ≤ 255 := by decide +kernel

theorem witness_EndOfInputEndsTheReceive :
    (reading 11 [0x00] [.endOfInput]).rxState ≠ .idle ∧ (reading 11 [0x00] [.endOfInput]).rxi = [.endOfInput] := by decide

theorem witness_SeekSyncSkipsUntilTheSyncByte :
    (receiving .seekSync 0 [.byte 0xAA]).rxState = .seekSync ∧
    (receiving .seekSync 0 [.byte 0xAA]).rxi = [.byte 0xAA] ∧ (0x55 : Byte) ≠ 0xAA := by decide

theorem witness_ReadLenKeepsTheLength :
    (receiving .readLen 0 [.byte 0x0B]).rxState = .readLen ∧ (receiving .readLen 0 [.byte 0x0B]).rxi = [.byte 0x0B] := by
  decide

theorem witness_ReadLencChecksTheComplement :
    (receiving .readLenc 0x0B [.byte 0xF4]).rxState = .readLenc ∧ (0x0B : Byte).toNat + (0xF4 : Byte).toNat = 255 ∧
    (0x0B : Byte).toNat + (0xF3 : Byte).toNat ≠ 255 ∧ (0x00 : Byte).toNat + (0xFF : Byte).toNat = 255 ∧
    (0xFF : Byte).toNat + (0x00 : Byte).toNat = 255 := by decide

theorem witness_ReadBodyStoresTheByte :
    let s := reading 11 [0x00] [.byte 0x00]
    s.rxState = .readBody ∧ s.rxi = [.byte 0x00] ∧ s.rxFill.toNat + 1 < s.rxL.toNat := by decide

/-- One byte; then two bytes with a wrong checksum, two with the right one (V11), and a whole frame F0. -/
theorem witness_LastBodyByteValidatesInOrder :
    (let s := reading 1 [] [.byte 0x00]
     s.rxState = .readBody ∧ s.rxFill.toNat + 1 = s.rxL.toNat ∧ s.rxL.toNat = 1) ∧
    (let s := reading 2 [0x11] [.byte 0xEE]
     s.rxFill.toNat + 1 = s.rxL.toNat ∧ s.rxBody.toList.take s.rxFill.toNat ++ [0xEE] = [] ++ [0x11, 0xEE] ∧
     crc16 s.cfg ([0xAA, s.rxL, s.rxLc] ++ []) = fromLe16 0x11 0xEE ∧
     crc16 s.cfg ([0xAA, s.rxL, s.rxLc] ++ []) ≠ fromLe16 0x00 0x00) ∧
    (let s := reading 11 [0, 0, 0, 0, 0, 0, 0x01, 0x40, 0x55, 0xE2] [.byte 0x21]
     s.rxFill.toNat + 1 = s.rxL.toNat ∧
     s.rxBody.toList.take s.rxFill.toNat ++ [0x21] = ([0, 0, 0, 0, 0, 0, 0x01, 0x40, 0x55] ++ []) ++ [0xE2, 0x21] ∧
     crc16 s.cfg ([0xAA, s.rxL, s.rxLc] ++ ([0, 0, 0, 0, 0, 0, 0x01, 0x40, 0x55] ++ [])) = fromLe16 0xE2 0x21) := by
  decide +kernel

theorem witness_ReaderStepsComputeReceive :
    (receiving .seekSync 0 [.byte 0xAA]).rxState = .seekSync ∧ (receiving .seekSync 0 [.byte 0xAA]).rxFill = 0 := by decide

theorem witness_ReceiveConsumesByOutcome :
    (∀ b ∈ ([0x00, 0x13] : List Byte), b ≠ 0xAA) ∧ (0x02 : Byte).toNat + (0xFD : Byte).toNat = 255 ∧
    ([0x11, 0xEE] : List Byte).length = (0x02 : Byte).toNat ∧ (0x00 : Byte).toNat + (0xAA : Byte).toNat ≠ 255 ∧
    (receive Config.default [.byte 0x01, .endOfInput]).outcome = .failed .inputExhausted := by decide

theorem witness_FramesRoundTripAfterGarbage :
    (∀ b ∈ ([0x00, 0x13, 0x55] : List Byte), b ≠ 0xAA) ∧ ([0x01] : List Byte).length ≤ 244 ∧
    ∃ s : State, s.rxi = onWire ([0x00, 0x13, 0x55] ++ envelope s.cfg 0x12345678 0x0202 [0x01]) ++ [.endOfInput] :=
  ⟨by decide, by decide,
    ⟨{ State.reset with rxi := onWire ([0x00, 0x13, 0x55] ++ envelope Config.default 0x12345678 0x0202 [0x01]) ++
        [.endOfInput] }, rfl⟩⟩

theorem witness_SingleBitCorruptionIsReported :
    Config.default.crcPoly ≠ 0 ∧ ([] : List Byte).length ≤ 244 ∧ 3 ≤ 13 ∧ 13 < 14 + ([] : List Byte).length ∧ 7 < 8 := by
  decide

theorem witness_RxReadAnswersThePayloadByte :
    holding.InvFrame ∧ holding.rxValid = true ∧ holding.rxPlen.toNat ≤ (4 : Byte).toNat ∧
    (3 : Byte).toNat < holding.rxPlen.toNat ∧ State.reset.InvFrame ∧ State.reset.rxValid = false := by decide

theorem witness_ReadsHaveNoSideEffect : ∃ a, Instr.rxRead 3 = .regRead a ∨ Instr.rxRead 3 = .rxRead a :=
  ⟨3, .inr rfl⟩

theorem witness_NoFrameIsVisibleDuringAReceive :
    ((withWord 0x20000000).rxState ≠ .idle → (withWord 0x20000000).rxValid = false) ∧
    ∃ t, step (withWord 0x20000000) = .next t := ⟨by decide, ⟨_, rfl⟩⟩

theorem witness_StepKeepsTheInvariants : (withWord 0x10010001).Inv ∧ ∃ t, step (withWord 0x10010001) = .next t :=
  ⟨by decide, ⟨_, rfl⟩⟩

theorem witness_MovesKeepTheInvariants : staged3.Inv ∧ ∃ t, Move.reset.apply staged3 = some t := ⟨by decide, ⟨_, rfl⟩⟩

theorem witness_ReachableStatesAreSound : Reachable Config.default State.reset := .start

/-- Two states that differ in TX_BUF, RX_L, RX_CTR and RX_PAYLOAD and cannot be told apart. -/
theorem witness_UnspecifiedValuesAreNeverObserved :
    State.reset.Inv ∧
    State.reset.SameVisible
      { State.reset with txBuf := Vector.replicate 244 0xFF, rxL := 7, rxCtr := 9, rxPayload := Vector.replicate 244 1 } :=
  ⟨by decide,
    { cfg := rfl, cmd := rfl, rsp := rfl, txo := rfl, rxi := rfl, crcAcc := rfl, txCtr := rfl, txStaging := rfl
      txType := rfl, txLen := rfl, txFill := rfl, txBuf := fun i h => absurd h (Nat.not_lt_zero i), rxState := rfl
      rxL := fun h => by cases h <;> contradiction
      rxLc := fun h => by contradiction
      rxFill := rfl, rxBody := fun i h => absurd h (Nat.not_lt_zero i), rxValid := rfl
      rxCtr := fun h => by contradiction
      rxType := fun h => by contradiction
      rxPlen := fun h => by contradiction
      rxPayload := fun h => by contradiction }⟩

theorem witness_OutsideMovesTouchTheirPortOnly :
    ∃ s : State, s.rsp = 0x0000FFFF :: [] ∧ s.txo = 0xAA :: [] ∧ State.reset.rsp = [] ∧ State.reset.txo = [] :=
  ⟨{ State.reset with rsp := [0x0000FFFF], txo := [0xAA] }, rfl, rfl, rfl, rfl⟩

theorem witness_ParametersNeverChange : ∃ t, (Move.hostWrite 0x00000000).apply State.reset = some t := ⟨_, rfl⟩

end Sys2Proof.Tests
end

section
/-!
SUPPORT. What a command step and a reader step can do to the state, said once as two relations, `CommandEffect` and
`ReaderEffect`, each tied to the model by one lemma (`exec_effect`, `readerStep_effect`), and what each relation leaves
unchanged. The statements about 10_state.md follow from these by case analysis on the effect.
-/
namespace Sys2Proof.Machine

/-! The effects of a command (41_framer.md, 42_reader.md R140, R155, 43_control.md). -/

/-- The next states that a command can answer from s, with the conditions under which it writes a register. -/
inductive CommandEffect (s : State) : Instr → State → Prop where
  /-- The command only completes: NOP, the reads, and every command that raises an error. -/
  | answer (i : Instr) (code : StatusCode) (data : BitVec 24) : CommandEffect s i (s.complete code data)
  | writeCrc (i : Instr) (acc : Half) (hi : i = .crcClear ∨ ∃ b, i = .crcFeed b) :
      CommandEffect s i (({ s with crcAcc := acc } : State).complete .ok (acc.zeroExtend 24))
  | emitEmpty (type : Half) (hs : s.txStaging = false) :
      CommandEffect s (.txBegin type 0) ((s.emitFrame type []).complete .ok 0)
  | openStaging (type : Half) (len : Byte) (hs : s.txStaging = false) (hpos : 1 ≤ len.toNat)
      (hmax : len.toNat ≤ 244) :
      CommandEffect s (.txBegin type len) ((s.openStaging type len).complete .ok 0)
  | stageByte (b : Byte) (hs : s.txStaging = true) (hmore : s.txFill + 1 ≠ s.txLen) :
      CommandEffect s (.txData b) ((s.stageByte b).complete .ok 0)
  | emitStaged (b : Byte) (hs : s.txStaging = true) (hlast : s.txFill + 1 = s.txLen) :
      CommandEffect s (.txData b)
        (((s.stageByte b).emitFrame s.txType (slice (setByte s.txBuf s.txFill b).toList 0 s.txLen.toNat)).complete .ok 0)
  | abort : CommandEffect s .txAbort (s.clearStaging.complete .ok 0)
  | openReceive : CommandEffect s .rxRecv { s with rxValid := false, rxFill := 0, rxState := .seekSync }

theorem CommandEffect.of_completeRead {n : Nat} (i : Instr) (s : State) (r : ReadResult n) :
    CommandEffect s i (s.completeRead r) := by
  rcases s.completeRead_cases r with ⟨v, _, h⟩ | ⟨e, _, h⟩
  · exact h ▸ .answer i _ _
  · exact h ▸ .answer i _ _

theorem execTxBegin_effect (type : Half) (len : Byte) (s : State) :
    ∃ t, execTxBegin type len s = .next t ∧ CommandEffect s (.txBegin type len) t := by
  rcases execTxBegin_cases type len s with ⟨_, h⟩ | ⟨_, _, h⟩ | ⟨hs, rfl, h⟩ | ⟨hs, hpos, hmax, h⟩
  · exact ⟨_, h, .answer _ _ _⟩
  · exact ⟨_, h, .answer _ _ _⟩
  · exact ⟨_, h, .emitEmpty type hs⟩
  · exact ⟨_, h, .openStaging type len hs hpos hmax⟩

theorem execTxData_effect (b : Byte) (s : State) :
    ∃ t, execTxData b s = .next t ∧ CommandEffect s (.txData b) t := by
  rcases execTxData_cases b s with ⟨_, h⟩ | ⟨hs, hmore, h⟩ | ⟨hs, hlast, h⟩
  · exact ⟨_, h, .answer _ _ _⟩
  · exact ⟨_, h, .stageByte b hs hmore⟩
  · exact ⟨_, h, .emitStaged b hs hlast⟩

/-- Every command, in every state, answers a next state that `CommandEffect` describes. -/
theorem exec_answers_effect (i : Instr) (s : State) : ∃ t, exec i s = .next t ∧ CommandEffect s i t := by
  cases i with
  | nop => exact ⟨_, rfl, .answer _ _ _⟩
  | crcClear => exact ⟨_, rfl, .writeCrc _ _ (.inl rfl)⟩
  | crcFeed b => exact ⟨_, rfl, .writeCrc _ _ (.inr ⟨b, rfl⟩)⟩
  | txBegin type len => exact execTxBegin_effect type len s
  | txData b => exact execTxData_effect b s
  | txAbort => exact ⟨_, rfl, .abort⟩
  | rxRecv => exact ⟨_, rfl, .openReceive⟩
  | rxRead a => exact ⟨_, rfl, .of_completeRead _ _ _⟩
  | regRead a => exact ⟨_, rfl, .of_completeRead _ _ _⟩

theorem exec_effect {i : Instr} {s t : State} (h : exec i s = .next t) : CommandEffect s i t := by
  obtain ⟨u, hu, e⟩ := exec_answers_effect i s
  cases hu.symm.trans h
  exact e

/-! The effects of a reader step (42_reader.md R141 to R153). -/

/-- The next states that a reader step can reach from s, where a receive is in progress. -/
inductive ReaderEffect (s : State) : State → Prop where
  /-- The receive ends with an error; RX_LC or a byte of RX_BODY may have been written first. -/
  | fail (lc : Byte) (body : Vector Byte 255) (e : StatusCode) :
      ReaderEffect s (({ s with rxLc := lc, rxBody := body } : State).endReceive e 0)
  | sync (hs : s.rxState = .seekSync) : ReaderEffect s { s with rxState := .readLen }
  | skip (b : Byte) (hs : s.rxState = .seekSync) : ReaderEffect s (s.skipEvent b)
  | length (b : Byte) (hs : s.rxState = .readLen) : ReaderEffect s { s with rxL := b, rxState := .readLenc }
  | openBody (b : Byte) (hs : s.rxState = .readLenc) (hl : s.rxL ≠ 0) :
      ReaderEffect s { s with rxLc := b, rxState := .readBody }
  | bodyByte (b : Byte) (hs : s.rxState = .readBody) (hmore : s.rxFill + 1 ≠ s.rxL) :
      ReaderEffect s { s with rxBody := setByte s.rxBody s.rxFill b, rxFill := s.rxFill + 1 }
  /-- The receive ends with a decoded frame, which holds all but eleven of the RX_L body bytes. -/
  | emit (body : Vector Byte 255) (f : DecodedFrame) (hs : s.rxState = .readBody)
      (hlen : f.payload.length = s.rxL.toNat - 11) :
      ReaderEffect s ((({ s with rxBody := body } : State).keepFrame f).endReceive .ok (BitVec.ofNat 24 f.payload.length))

/-- `Validate()` in its two cases (R147): a frame is accepted only with at least eleven body bytes. -/
theorem State.validate_cases (s : State) :
    (∃ f : DecodedFrame, 11 ≤ s.rxL.toNat ∧ f.payload.length = s.rxL.toNat - 11 ∧
      s.validate = (s.keepFrame f).endReceive .ok (BitVec.ofNat 24 f.payload.length)) ∨
    (∃ e, s.validate = s.endReceive e 0) := by
  rcases s.conclude_cases (validateBody s.cfg s.rxL s.rxLc (slice s.rxBody.toList 0 s.rxL.toNat)) with
    ⟨f, hv, h⟩ | ⟨e, _, h⟩
  · obtain ⟨hmin, hlen⟩ := validateBody_accept hv
    exact .inl ⟨f, by simpa using hmin, by simpa using hlen, h⟩
  · exact .inr ⟨e, h⟩

theorem seekSyncStep_effect {s : State} (b : Byte) (hs : s.rxState = .seekSync) :
    ReaderEffect s (s.seekSyncStep b) := by
  unfold State.seekSyncStep
  split
  · exact .sync hs
  · exact .skip b hs

theorem readLencStep_effect {s : State} (b : Byte) (hs : s.rxState = .readLenc) :
    ReaderEffect s (s.readLencStep b) := by
  dsimp only [State.readLencStep]
  split
  · exact .fail b s.rxBody _
  split
  next hl =>
    rcases State.validate_cases { s with rxLc := b } with ⟨f, hmin, _⟩ | ⟨e, h⟩
    · simp [hl] at hmin
    · exact h ▸ .fail b s.rxBody e
  next hl => exact .openBody b hs hl

theorem readBodyStep_effect {s : State} (b : Byte) (hs : s.rxState = .readBody) :
    ReaderEffect s (s.readBodyStep b) := by
  dsimp only [State.readBodyStep]
  split
  · rcases State.validate_cases { s with rxBody := setByte s.rxBody s.rxFill b, rxFill := s.rxFill + 1 } with
      ⟨f, _, hlen, h⟩ | ⟨e, h⟩
    · exact h ▸ .emit (setByte s.rxBody s.rxFill b) f hs hlen
    · exact h ▸ .fail s.rxLc (setByte s.rxBody s.rxFill b) e
  next hmore => exact .bodyByte b hs hmore

theorem readerStep_effect {s : State} (x : RxItem) (hs : s.rxState ≠ .idle) : ReaderEffect s (s.readerStep x) := by
  rcases s.readerStep_cases x hs with ⟨_, h⟩ | ⟨b, _, ⟨hr, h⟩ | ⟨hr, h⟩ | ⟨hr, h⟩ | ⟨hr, h⟩⟩
  · exact h ▸ .fail s.rxLc s.rxBody _
  · exact h ▸ seekSyncStep_effect b hr
  · exact h ▸ .length b hr
  · exact h ▸ readLencStep_effect b hr
  · exact h ▸ readBodyStep_effect b hr

/-- One engine step that answers a next state (43_control.md R181), by its effect: an illegal word completes as a command
does that only answers. -/
theorem step_effect {s t : State} (h : step s = .next t) :
    (∃ w rest i, s.rxState = .idle ∧ s.cmd = w :: rest ∧ decode w = .ok i ∧
      CommandEffect { s with cmd := rest } i t) ∨
    (∃ w rest e, s.rxState = .idle ∧ s.cmd = w :: rest ∧ decode w = .error e ∧
      t = ({ s with cmd := rest } : State).complete .illegalCommand 0) ∨
    (∃ x rest, s.rxState ≠ .idle ∧ s.rxi = x :: rest ∧ ReaderEffect { s with rxi := rest } t) := by
  rcases step_cases h with ⟨w, rest, i, hi, hc, hd, hx⟩ | hill | ⟨x, rest, hi, hr, rfl⟩
  · exact .inl ⟨w, rest, i, hi, hc, hd, exec_effect hx⟩
  · exact .inr (.inl hill)
  · exact .inr (.inr ⟨x, rest, hi, hr, readerStep_effect x hi⟩)

/-! What the effects leave unchanged. -/

/-- No command writes the parameters, CMD or RXI. -/
theorem CommandEffect.frame {i : Instr} {s t : State} (e : CommandEffect s i t) :
    t.cfg = s.cfg ∧ t.cmd = s.cmd ∧ t.rxi = s.rxi := by
  cases e <;> exact ⟨rfl, rfl, rfl⟩

/-- A command answers at most one word (43_control.md R182). -/
theorem CommandEffect.rsp {i : Instr} {s t : State} (e : CommandEffect s i t) :
    ∃ r, t.rsp = s.rsp ++ r ∧ r.length ≤ 1 := by
  cases e with
  | openReceive => exact ⟨[], by simp⟩
  | _ => exact ⟨[_], rfl, le_rfl⟩

/-- A command only appends to TXO: an envelope where it emits a frame, and nothing else (41_framer.md R127). -/
theorem CommandEffect.txo {i : Instr} {s t : State} (e : CommandEffect s i t) : ∃ o, t.txo = s.txo ++ o := by
  cases e with
  | emitEmpty => exact ⟨_, rfl⟩
  | emitStaged => exact ⟨_, rfl⟩
  | _ => exact ⟨[], by simp⟩

/-- The reader registers, the decoded frame and VALID are RX_RECV's alone among the commands (10_state.md R34 to R38). -/
theorem CommandEffect.reader {i : Instr} {s t : State} (e : CommandEffect s i t) :
    (t.reader = s.reader ∧ t.frameRegs = s.frameRegs ∧ t.rxValid = s.rxValid) ∨
    (i = .rxRecv ∧ t = { s with rxValid := false, rxFill := 0, rxState := .seekSync }) := by
  cases e with
  | openReceive => exact .inr ⟨rfl, rfl⟩
  | _ => exact .inl ⟨rfl, rfl, rfl⟩

/-- CRC_ACC is written by the two checksum commands alone (10_state.md R27). -/
theorem CommandEffect.crcAcc {i : Instr} {s t : State} (e : CommandEffect s i t) :
    t.crcAcc = s.crcAcc ∨ i = .crcClear ∨ ∃ b, i = .crcFeed b := by
  cases e with
  | writeCrc _ _ hi => exact .inr hi
  | _ => exact .inl rfl

/-- A reader step writes only the reader, the decoded frame and RSP. -/
theorem ReaderEffect.frame {s t : State} (e : ReaderEffect s t) :
    t.cfg = s.cfg ∧ t.cmd = s.cmd ∧ t.rxi = s.rxi ∧ t.txo = s.txo ∧ t.crcAcc = s.crcAcc ∧ t.framer = s.framer := by
  cases e <;> exact ⟨rfl, rfl, rfl, rfl, rfl, rfl⟩

/-- A reader step answers at most one word: a SKIP event, or the completion word that ends the receive. -/
theorem ReaderEffect.rsp {s t : State} (e : ReaderEffect s t) : ∃ r, t.rsp = s.rsp ++ r ∧ r.length ≤ 1 := by
  cases e with
  | fail => exact ⟨[_], rfl, le_rfl⟩
  | skip => exact ⟨[_], rfl, le_rfl⟩
  | emit => exact ⟨[_], rfl, le_rfl⟩
  | _ => exact ⟨[], by simp⟩

/-- Among the reader steps only the emit step writes the decoded frame and VALID, and it ends the receive (R152, R153). -/
theorem ReaderEffect.frameRegs {s t : State} (e : ReaderEffect s t) :
    (t.frameRegs = s.frameRegs ∧ t.rxValid = s.rxValid) ∨
    (s.rxState = .readBody ∧ t.rxState = .idle ∧ t.rxValid = true) := by
  cases e with
  | emit _ _ hs _ => exact .inr ⟨hs, rfl, rfl⟩
  | _ => exact .inl ⟨rfl, rfl⟩

/-! The invariants of 10_state.md R42 by the unit whose registers they speak of. -/

/-- R42 (a) and (b). -/
abbrev State.FramerInv (s : State) : Prop := s.InvIdleFramer ∧ s.InvStaging

/-- R42 (c), (d) and (e). -/
abbrev State.ReaderInv (s : State) : Prop := s.InvBody ∧ s.InvNoBody ∧ s.InvFrame

theorem State.inv_iff (s : State) : s.Inv ↔ s.FramerInv ∧ s.ReaderInv := and_assoc.symm

theorem State.FramerInv.congr {s t : State} (h : t.framer = s.framer) (hs : s.FramerInv) : t.FramerInv := by
  simp only [State.framer, FramerRegs.mk.injEq] at h
  obtain ⟨_, hstaging, htype, hlen, hfill, _⟩ := h
  simpa only [State.FramerInv, State.InvIdleFramer, State.InvStaging, hstaging, htype, hlen, hfill] using hs

theorem State.ReaderInv.congr {s t : State} (hr : t.reader = s.reader) (hf : t.frameRegs = s.frameRegs)
    (hv : t.rxValid = s.rxValid) (hs : s.ReaderInv) : t.ReaderInv := by
  simp only [State.reader, ReaderRegs.mk.injEq] at hr
  simp only [State.frameRegs, FrameRegs.mk.injEq] at hf
  obtain ⟨hstate, hl, _, hfill, _⟩ := hr
  obtain ⟨_, _, hplen, _⟩ := hf
  simpa only [State.ReaderInv, State.InvBody, State.InvNoBody, State.InvFrame, hstate, hl, hfill, hplen, hv] using hs

/-- A fill counter below its length that is not at the last byte stays below it. -/
theorem fill_succ_lt {fill len : Byte} (h : fill.toNat < len.toNat) (hmore : fill + 1 ≠ len) :
    (fill + 1).toNat < len.toNat := by
  bv_omega

/-- A cleared framer meets R42 (a) and (b). -/
theorem State.FramerInv.of_cleared {s : State} (hs : s.txStaging = false)
    (hr : s.txType = 0 ∧ s.txLen = 0 ∧ s.txFill = 0) :
    s.FramerInv :=
  ⟨fun _ => hr, fun h => absurd (hs.symm.trans h) Bool.false_ne_true⟩

theorem CommandEffect.framerInv {i : Instr} {s t : State} (e : CommandEffect s i t) (hs : s.FramerInv) : t.FramerInv := by
  cases e with
  | answer => exact hs
  | writeCrc => exact hs
  | openReceive => exact hs
  | emitEmpty => exact .of_cleared rfl ⟨rfl, rfl, rfl⟩
  | emitStaged => exact .of_cleared rfl ⟨rfl, rfl, rfl⟩
  | abort => exact .of_cleared rfl ⟨rfl, rfl, rfl⟩
  | openStaging type len _ hpos hmax => exact ⟨fun h => Bool.noConfusion h, fun _ => ⟨hpos, hmax, hpos⟩⟩
  | stageByte b hstaging hmore =>
    obtain ⟨hpos, hmax, hfill⟩ := hs.2 hstaging
    exact ⟨fun h => absurd (hstaging.symm.trans h) Bool.noConfusion, fun _ => ⟨hpos, hmax, fill_succ_lt hfill hmore⟩⟩

theorem CommandEffect.readerInv {i : Instr} {s t : State} (e : CommandEffect s i t) (hs : s.ReaderInv) : t.ReaderInv := by
  rcases e.reader with ⟨hr, hf, hv⟩ | ⟨_, rfl⟩
  · exact hs.congr hr hf hv
  · exact ⟨fun h => RxState.noConfusion h, fun _ => rfl, fun h => Bool.noConfusion h⟩

theorem CommandEffect.inv {i : Instr} {s t : State} (e : CommandEffect s i t) (hs : s.Inv) : t.Inv := by
  rw [State.inv_iff] at hs ⊢
  exact ⟨e.framerInv hs.1, e.readerInv hs.2⟩

theorem ReaderEffect.readerInv {s t : State} (e : ReaderEffect s t) (hs : s.ReaderInv) : t.ReaderInv := by
  obtain ⟨hbody, hnobody, hframe⟩ := hs
  cases e with
  | fail => exact ⟨fun h => RxState.noConfusion h, fun _ => rfl, hframe⟩
  | sync hseek => exact ⟨fun h => RxState.noConfusion h, fun _ => hnobody (by simp [hseek]), hframe⟩
  | skip b _ => exact ⟨hbody, hnobody, hframe⟩
  | length b hlen => exact ⟨fun h => RxState.noConfusion h, fun _ => hnobody (by simp [hlen]), hframe⟩
  | openBody b hlenc hl =>
    have hfill : s.rxFill = 0 := hnobody (by simp [hlenc])
    have hpos : 0 < s.rxL.toNat := by bv_omega
    exact ⟨fun _ => ⟨hpos, by simpa [hfill] using hpos⟩, fun h => absurd rfl h, hframe⟩
  | bodyByte b hread hmore =>
    obtain ⟨hpos, hfill⟩ := hbody hread
    exact ⟨fun _ => ⟨hpos, fill_succ_lt hfill hmore⟩, fun h => absurd hread h, hframe⟩
  | emit body f _ hlen =>
    have hl : s.rxL.toNat < 256 := s.rxL.isLt
    refine ⟨fun h => RxState.noConfusion h, fun _ => rfl, fun _ => ?_⟩
    simp only [State.endReceive_rxPlen, State.keepFrame_rxPlen, BitVec.toNat_ofNat]
    omega

theorem ReaderEffect.inv {s t : State} (e : ReaderEffect s t) (hs : s.Inv) : t.Inv := by
  rw [State.inv_iff] at hs ⊢
  obtain ⟨_, _, _, _, _, hframer⟩ := e.frame
  exact ⟨hs.1.congr hframer, e.readerInv hs.2⟩

/-! What every step and every move keeps. -/

theorem step_cfg {s t : State} (h : step s = .next t) : t.cfg = s.cfg := by
  rcases step_effect h with ⟨w, rest, i, _, _, _, e⟩ | ⟨w, rest, _, _, _, _, rfl⟩ | ⟨x, rest, _, _, e⟩
  · exact e.frame.1
  · rfl
  · exact e.frame.1

/-- No frame is visible during a receive: RX_RECV clears VALID, and a frame is kept only by the step that ends the receive
(42_reader.md R140, R153). -/
theorem step_keeps_noVisibleFrame {s t : State} (hs : s.rxState ≠ .idle → s.rxValid = false) (h : step s = .next t) :
    t.rxState ≠ .idle → t.rxValid = false := by
  intro ht
  rcases step_effect h with ⟨w, rest, i, hi, _, _, e⟩ | ⟨w, rest, _, hi, _, _, rfl⟩ | ⟨x, rest, hi, _, e⟩
  · rcases e.reader with ⟨hr, _, _⟩ | ⟨_, rfl⟩
    · exact absurd ((congrArg ReaderRegs.state hr).trans hi) ht
    · rfl
  · exact absurd hi ht
  · rcases e.frameRegs with ⟨_, hv⟩ | ⟨_, hidle, _⟩
    · exact hv.trans (hs hi)
    · exact absurd hidle ht

/-- A move leaves every register alone, or it is a reset and gives all of them their reset values
(70_reset_and_hazards.md R231, R245). -/
theorem Move.apply_cases {m : Move} {s t : State} (h : m.apply s = some t) :
    (∃ cmd rsp txo rxi, t = { s with cmd := cmd, rsp := rsp, txo := txo, rxi := rxi }) ∨ t = s.resetMove := by
  cases m with
  | hostWrite w => exact .inl ⟨_, _, _, _, (Option.some.inj h).symm⟩
  | hostRead =>
    obtain ⟨_, h⟩ := Option.ite_none_left_eq_some.mp h
    exact .inl ⟨_, _, _, _, (Option.some.inj h).symm⟩
  | txDrain =>
    obtain ⟨_, h⟩ := Option.ite_none_left_eq_some.mp h
    exact .inl ⟨_, _, _, _, (Option.some.inj h).symm⟩
  | rxAppend x => exact .inl ⟨_, _, _, _, (Option.some.inj h).symm⟩
  | reset => exact .inr (Option.some.inj h).symm

theorem Move.apply_cfg {m : Move} {s t : State} (h : m.apply s = some t) : t.cfg = s.cfg := by
  rcases Move.apply_cases h with ⟨cmd, rsp, txo, rxi, rfl⟩ | rfl
  · rfl
  · rfl

theorem Move.apply_keeps_noVisibleFrame {m : Move} {s t : State} (hs : s.rxState ≠ .idle → s.rxValid = false)
    (h : m.apply s = some t) : t.rxState ≠ .idle → t.rxValid = false := by
  rcases Move.apply_cases h with ⟨cmd, rsp, txo, rxi, rfl⟩ | rfl
  · exact hs
  · exact fun _ => rfl

/-- An invariant of a block: what holds of its launch state and is kept by every step and every move holds of every
reachable state. -/
theorem Reachable.invariant {c : Config} {P : State → Prop} (hstart : P (State.resetWith c))
    (hstep : ∀ s t, P s → step s = .next t → P t) (hmove : ∀ (m : Move) (s t), P s → m.apply s = some t → P t)
    {s : State} (h : Reachable c s) : P s := by
  induction h with
  | start => exact hstart
  | engine _ h ih => exact hstep _ _ ih h
  | outside m _ h ih => exact hmove m _ _ ih h

/-! The obligations of 10_state.md. -/

/-- Settles O45, by the effect of the step. -/
theorem stepKeepsTheInvariants : Obligations.StepKeepsTheInvariants := by
  intro s t hs h
  rcases step_effect h with ⟨w, rest, i, _, _, _, e⟩ | ⟨w, rest, _, _, _, _, rfl⟩ | ⟨x, rest, _, _, e⟩
  · exact e.inv hs
  · exact hs
  · exact e.inv hs

/-- Settles O10: the step's own pop or pull, and what its effect leaves of the ports. -/
theorem portsAreFirstInFirstOut : Obligations.PortsAreFirstInFirstOut := by
  intro s t h
  rcases step_effect h with ⟨w, rest, i, hi, hc, _, e⟩ | ⟨w, rest, _, hi, hc, _, rfl⟩ | ⟨x, rest, hi, hr, e⟩
  · obtain ⟨_, hcmd, hrxi⟩ := e.frame
    exact ⟨.inl ⟨hi, ⟨w, by rw [hc, hcmd]⟩, hrxi⟩, e.rsp, e.txo⟩
  · exact ⟨.inl ⟨hi, ⟨w, hc⟩, rfl⟩, ⟨[_], rfl, le_rfl⟩, ⟨[], by simp⟩⟩
  · obtain ⟨_, hcmd, hrxi, htxo, _⟩ := e.frame
    exact ⟨.inr ⟨hi, ⟨x, by rw [hr, hrxi]⟩, hcmd⟩, e.rsp, ⟨[], by simpa using htxo⟩⟩

/-- Settles O22, by the effect of the step. -/
theorem crcAccIsWrittenByChecksumCommandsOnly : Obligations.CrcAccIsWrittenByChecksumCommandsOnly := by
  intro s t h hne
  rcases step_effect h with ⟨w, rest, i, hi, hc, hd, e⟩ | ⟨w, rest, _, _, _, _, rfl⟩ | ⟨x, rest, _, _, e⟩
  · rcases e.crcAcc with hsame | rfl | ⟨b, rfl⟩
    · exact absurd hsame hne
    · exact ⟨w, rest, hi, hc, .inl hd⟩
    · exact ⟨w, rest, hi, hc, .inr ⟨b, hd⟩⟩
  · exact absurd rfl hne
  · obtain ⟨_, _, _, _, hacc, _⟩ := e.frame
    exact absurd hacc hne

/-- Settles O43, by the effect of the step. -/
theorem decodedFrameIsWrittenByEmitOnly : Obligations.DecodedFrameIsWrittenByEmitOnly := by
  intro s t h
  rcases step_effect h with ⟨w, rest, i, hi, hc, hd, e⟩ | ⟨w, rest, _, _, _, _, rfl⟩ | ⟨x, rest, _, _, e⟩
  · rcases e.reader with ⟨_, hf, hv⟩ | ⟨rfl, rfl⟩
    · exact .inl ⟨hf, hv⟩
    · exact .inr (.inl ⟨rfl, rfl, rfl, w, rest, hi, hc, hd⟩)
  · exact .inl ⟨rfl, rfl⟩
  · rcases e.frameRegs with hsame | ⟨hread, hidle, hv⟩
    · exact .inl hsame
    · exact .inr (.inr ⟨.inr hread, hidle, hv⟩)

/-- Settles O47: the framer is idle and cleared, and no receive is in progress. -/
theorem resetHasTheInvariants : Obligations.ResetHasTheInvariants := by
  intro c
  rw [State.inv_iff]
  exact ⟨.of_cleared rfl ⟨rfl, rfl, rfl⟩, fun h => RxState.noConfusion h, fun _ => rfl, fun h => Bool.noConfusion h⟩

/-- Settles O46: the invariants speak of no port, and a reset gives every register its reset value. -/
theorem movesKeepTheInvariants : Obligations.MovesKeepTheInvariants := by
  intro m s t hs h
  rcases Move.apply_cases h with ⟨cmd, rsp, txo, rxi, rfl⟩ | rfl
  · exact hs
  · exact resetHasTheInvariants s.cfg

/-- Settles O48, by induction on how the state was reached. -/
theorem reachableStatesAreSound : Obligations.ReachableStatesAreSound := by
  intro c s h
  refine h.invariant (P := fun s => s.Inv ∧ s.cfg = c ∧ (s.rxState ≠ .idle → s.rxValid = false))
    ⟨resetHasTheInvariants c, rfl, fun _ => rfl⟩ ?_ ?_
  · rintro s t ⟨hinv, hcfg, hvis⟩ h
    exact ⟨stepKeepsTheInvariants s t hinv h, (step_cfg h).trans hcfg, step_keeps_noVisibleFrame hvis h⟩
  · rintro m s t ⟨hinv, hcfg, hvis⟩ h
    exact ⟨movesKeepTheInvariants m s t hinv h, (Move.apply_cfg h).trans hcfg, Move.apply_keeps_noVisibleFrame hvis h⟩

end Sys2Proof.Machine
end

section
/-!
SUPPORT. The two reads (20_memory.md section 3): the word that a read answers is fixed by what the index space gives, and
neither index space looks at RSP. The statement about 20_memory.md R58 follows from these two facts.
-/
namespace Sys2Proof.Machine

theorem exec_regRead (a : Byte) (s : State) : exec (.regRead a) s = .next (s.completeRead (s.readRegister a)) := rfl

theorem exec_rxRead (a : Byte) (s : State) : exec (.rxRead a) s = .next (s.completeRead (s.readPayload a)) := rfl

/-- What a read gives fixes the word it answers, in every state alike (R57, 60_exceptions.md R200). -/
theorem ReadResult.exists_word {n : Nat} (r : ReadResult n) :
    ∃ w : RspWord, ∀ s : State, .next (s.completeRead r) = s.answered w := by
  cases r with
  | value v => exact ⟨completionWord .ok (v.zeroExtend 24), fun _ => rfl⟩
  | error e => exact ⟨completionWord e 0, fun _ => rfl⟩

/-- The register space does not hold RSP (10_state.md R39). -/
@[simp] theorem State.readRegister_withRsp (s : State) (r : List RspWord) (a : Byte) :
    ({ s with rsp := r } : State).readRegister a = s.readRegister a := rfl

/-- The payload index space does not hold RSP (R51). -/
@[simp] theorem State.readPayload_withRsp (s : State) (r : List RspWord) (a : Byte) :
    ({ s with rsp := r } : State).readPayload a = s.readPayload a := rfl

/-- Settles O42: both states read the same result from the index space, and the result fixes the word. -/
theorem readsHaveNoSideEffect : Obligations.ReadsHaveNoSideEffect := by
  rintro s i ⟨a, rfl | rfl⟩
  · obtain ⟨w, hw⟩ := (s.readRegister a).exists_word
    refine ⟨w, hw s, fun r => ?_⟩
    rw [exec_regRead, State.readRegister_withRsp, hw]
  · obtain ⟨w, hw⟩ := (s.readPayload a).exists_word
    refine ⟨w, hw s, fun r => ?_⟩
    rw [exec_rxRead, State.readPayload_withRsp, hw]

end Sys2Proof.Machine
end

section
/-!
SUPPORT. The opcode map and the decoder (30_encoding.md section 1, 43_control.md R180). A row's mask compares the opcode
field and the reserved bits of the row's format, so a row fits exactly the well-formed words of its opcode
(`OpcodeRow.fits_iff`). No two rows share an opcode, so the decoder finds the one row that fits (`decode_eq_ok_iff`). The
statements about the encoding follow from these two facts.
-/
namespace Sys2Proof

/-! A word from its fields (R70 to R74). -/

theorem opField_append_low (w : CmdWord) : opField w ++ w.extractLsb' 0 24 = w :=
  (BitVec.extractLsb'_append_extractLsb'_eq_extractLsb' rfl).trans BitVec.extractLsb'_eq_self

theorem mid_append_byteField (w : CmdWord) : w.extractLsb' 8 16 ++ byteField w = w.extractLsb' 0 24 :=
  BitVec.extractLsb'_append_extractLsb'_eq_extractLsb' rfl

theorem lenField_append_typeField (w : CmdWord) : lenField w ++ typeField w = w.extractLsb' 0 24 :=
  BitVec.extractLsb'_append_extractLsb'_eq_extractLsb' rfl

theorem word_ext {u v : CmdWord} (hop : opField u = opField v) (hlow : u.extractLsb' 0 24 = v.extractLsb' 0 24) :
    u = v := by
  rw [← opField_append_low u, ← opField_append_low v, hop, hlow]

/-- A word of format N is its opcode (R71). -/
theorem encodeN_of_fields {op : Byte} {w : CmdWord} (hop : opField w = op) (hlow : w.extractLsb' 0 24 = 0) :
    encodeN op = w :=
  word_ext (by rw [opField_encodeN, hop]) (by rw [reserved_encodeN, hlow])

/-- A word of format B or A is its opcode and its byte operand (R72, R74). -/
theorem encodeB_of_fields {op : Byte} {w : CmdWord} (hop : opField w = op) (hmid : w.extractLsb' 8 16 = 0) :
    encodeB op (byteField w) = w := by
  refine word_ext (by rw [opField_encodeB, hop]) ?_
  rw [← mid_append_byteField, ← mid_append_byteField, reserved_encodeB, byteField_encodeB, hmid]

/-- A word of format T is its opcode and its two operands (R73). -/
theorem encodeT_of_fields {op : Byte} {w : CmdWord} (hop : opField w = op) :
    encodeT op (lenField w) (typeField w) = w := by
  refine word_ext (by rw [opField_encodeT, hop]) ?_
  rw [← lenField_append_typeField, ← lenField_append_typeField, lenField_encodeT, typeField_encodeT]

/-! The masks of the opcode map (R75). -/

/-- The mask column by format: the opcode field and the reserved bits. -/
def Format.mask (f : Format) : CmdWord :=
  match f with
  | .N => 0xFFFFFFFF
  | .B => 0xFFFFFF00
  | .T => 0xFF000000
  | .A => 0xFFFFFF00

@[simp] theorem opField_and_mask (w : CmdWord) (f : Format) : opField (w &&& f.mask) = opField w := by
  have hmask : opField f.mask = BitVec.allOnes 8 := by cases f <;> decide
  rw [opField, BitVec.extractLsb'_and, ← opField, ← opField, hmask, BitVec.and_allOnes]

theorem eq_encodeN_iff (w : CmdWord) (op : Byte) : w = encodeN op ↔ opField w = op ∧ w.extractLsb' 0 24 = 0 := by
  constructor
  · rintro rfl
    exact ⟨opField_encodeN op, reserved_encodeN op⟩
  · rintro ⟨hop, hlow⟩
    exact (encodeN_of_fields hop hlow).symm

/-- Below the opcode field, what a byte format's mask leaves is zero exactly when [23:8] is. -/
theorem low_and_byteMask_eq_zero_iff (w : CmdWord) :
    (w &&& 0xFFFFFF00).extractLsb' 0 24 = 0 ↔ w.extractLsb' 8 16 = 0 := by
  have hmid : (w &&& 0xFFFFFF00).extractLsb' 8 16 = w.extractLsb' 8 16 := by
    rw [BitVec.extractLsb'_and, show (0xFFFFFF00 : CmdWord).extractLsb' 8 16 = BitVec.allOnes 16 by decide,
      BitVec.and_allOnes]
  have hbyte : byteField (w &&& 0xFFFFFF00) = 0 := by
    rw [byteField, BitVec.extractLsb'_and, show (0xFFFFFF00 : CmdWord).extractLsb' 0 8 = 0 by decide]
    exact BitVec.and_zero
  rw [← mid_append_byteField, hmid, hbyte]
  constructor
  · intro h
    exact BitVec.extractLsb'_append_eq_left.symm.trans (congrArg (BitVec.extractLsb' 8 16) h)
  · intro h
    rw [h]
    rfl

/-- What the masked part below the opcode field says: the reserved bits of the format are clear. -/
theorem low_and_mask_eq_zero_iff (w : CmdWord) (f : Format) :
    (w &&& f.mask).extractLsb' 0 24 = 0 ↔ reservedClear f w = true := by
  cases f with
  | N =>
    have hmask : w &&& Format.N.mask = w := BitVec.and_allOnes
    simp [hmask, reservedClear]
  | B => exact (low_and_byteMask_eq_zero_iff w).trans beq_iff_eq.symm
  | T =>
    have hmask : Format.T.mask.extractLsb' 0 24 = 0 := by decide
    simp [BitVec.extractLsb'_and, hmask, reservedClear]
  | A => exact (low_and_byteMask_eq_zero_iff w).trans beq_iff_eq.symm

/-- Comparing a masked word with a bare opcode is comparing the opcode field and the reserved bits. -/
theorem and_mask_eq_encodeN_iff (w : CmdWord) (f : Format) (op : Byte) :
    w &&& f.mask = encodeN op ↔ opField w = op ∧ reservedClear f w = true := by
  rw [eq_encodeN_iff, opField_and_mask, low_and_mask_eq_zero_iff]

/-! The opcodes (R75, R76). -/

/-- The nine opcodes, in the order of the table. -/
theorem opcodeMap_opcodes :
    opcodeMap.map (fun r => opField r.pattern) = [0x00, 0x01, 0x02, 0x10, 0x11, 0x12, 0x20, 0x21, 0x30] := by
  decide

theorem formatOf_eq_none_iff (op : Byte) :
    formatOf op = none ↔ op ∉ [(0x00 : Byte), 0x01, 0x02, 0x10, 0x11, 0x12, 0x20, 0x21, 0x30] := by
  simp [formatOf, ite_eq_iff]

/-- An assigned opcode has a row. -/
theorem exists_row_of_formatOf {op : Byte} {f : Format} (h : formatOf op = some f) :
    ∃ r ∈ opcodeMap, opField r.pattern = op := by
  have hmem : op ∈ opcodeMap.map (fun r => opField r.pattern) := by
    by_contra hnot
    rw [opcodeMap_opcodes] at hnot
    exact absurd h (by simp [(formatOf_eq_none_iff op).mpr hnot])
  exact List.mem_map.mp hmem

/-- No two rows share an opcode. -/
theorem row_eq_of_opField_eq :
    ∀ r ∈ opcodeMap, ∀ q ∈ opcodeMap, opField r.pattern = opField q.pattern → r = q := by
  decide

/-- Each row's pattern is its bare opcode, and its mask is its format's. -/
theorem opcodeMap_columns :
    ∀ r ∈ opcodeMap, r.pattern = encodeN (opField r.pattern) ∧
      (formatOf (opField r.pattern)).map Format.mask = some r.mask := by
  decide

/-! Well-formed words and the rows that fit them (R75, R76). -/

theorem wordWellFormed_iff (w : CmdWord) :
    wordWellFormed w = true ↔ ∃ f, formatOf (opField w) = some f ∧ reservedClear f w = true := by
  cases hf : formatOf (opField w) with
  | none => simp [wordWellFormed, illegalReason, hf]
  | some f => cases hr : reservedClear f w <;> simp [wordWellFormed, illegalReason, hf, hr]

theorem OpcodeRow.fits_iff_masked_eq (r : OpcodeRow) (w : CmdWord) : r.fits w = true ↔ w &&& r.mask = r.pattern :=
  beq_iff_eq

/-- A row fits exactly the well-formed words of its opcode. -/
theorem OpcodeRow.fits_iff {r : OpcodeRow} (hr : r ∈ opcodeMap) (w : CmdWord) :
    r.fits w = true ↔ opField w = opField r.pattern ∧ wordWellFormed w = true := by
  obtain ⟨hpattern, hcolumn⟩ := opcodeMap_columns r hr
  obtain ⟨f, hf, hmask⟩ := Option.map_eq_some_iff.mp hcolumn
  rw [r.fits_iff_masked_eq, hpattern, ← hmask, and_mask_eq_encodeN_iff, opField_encodeN, wordWellFormed_iff]
  refine and_congr_right fun hop => ?_
  simp [hop, hf]

theorem OpcodeRow.eq_of_fits {r q : OpcodeRow} (hr : r ∈ opcodeMap) (hq : q ∈ opcodeMap) {w : CmdWord}
    (hrw : r.fits w = true) (hqw : q.fits w = true) : r = q :=
  row_eq_of_opField_eq r hr q hq
    (((OpcodeRow.fits_iff hr w).mp hrw).1.symm.trans ((OpcodeRow.fits_iff hq w).mp hqw).1)

/-! The decoder (43_control.md R180). -/

theorem decode_eq_ok_iff (w : CmdWord) (i : Instr) :
    decode w = .ok i ↔ ∃ r ∈ opcodeMap, r.fits w = true ∧ i = r.mnemonic.withOperands w := by
  cases hfind : opcodeMap.find? (·.fits w) with
  | some q =>
    have hq : q ∈ opcodeMap := List.mem_of_find?_eq_some hfind
    have hqw : q.fits w = true := by simpa using List.find?_some hfind
    have hdecode : decode w = .ok (q.mnemonic.withOperands w) := by simp only [decode, hfind]
    rw [hdecode, Except.ok.injEq]
    constructor
    · rintro rfl
      exact ⟨q, hq, hqw, rfl⟩
    · rintro ⟨r, hr, hrw, rfl⟩
      rw [OpcodeRow.eq_of_fits hr hq hrw hqw]
  | none =>
    have hnone := List.find?_eq_none.mp hfind
    constructor
    · intro h
      simp only [decode, hfind] at h
      split at h <;> cases h
    · rintro ⟨r, hr, hrw, _⟩
      exact absurd hrw (hnone r hr)

theorem exists_decode_eq_ok_iff (w : CmdWord) : (∃ i, decode w = .ok i) ↔ wordWellFormed w = true := by
  constructor
  · rintro ⟨i, hi⟩
    obtain ⟨r, hr, hrw, _⟩ := (decode_eq_ok_iff w i).mp hi
    exact ((OpcodeRow.fits_iff hr w).mp hrw).2
  · intro hwf
    obtain ⟨f, hf, _⟩ := (wordWellFormed_iff w).mp hwf
    obtain ⟨r, hr, hop⟩ := exists_row_of_formatOf hf
    exact ⟨_, (decode_eq_ok_iff w _).mpr ⟨r, hr, (OpcodeRow.fits_iff hr w).mpr ⟨hop.symm, hwf⟩, rfl⟩⟩

/-- The decoder refuses exactly the illegal encodings, for the reason that the field-by-field reading gives (R76). -/
theorem decode_eq_error_iff (w : CmdWord) (e : IllegalReason) : decode w = .error e ↔ illegalReason w = some e := by
  cases hwf : wordWellFormed w with
  | true =>
    obtain ⟨i, hi⟩ := (exists_decode_eq_ok_iff w).mpr hwf
    have hlegal : illegalReason w = none := Option.isNone_iff_eq_none.mp hwf
    simp [hi, hlegal]
  | false =>
    have hnone : opcodeMap.find? (·.fits w) = none := by
      refine List.find?_eq_none.mpr fun r hr hrw => ?_
      simp [((OpcodeRow.fits_iff hr w).mp hrw).2] at hwf
    have hdecode : decode w =
        if (formatOf (opField w)).isSome then .error .reservedBitSet else .error .unassignedOpcode := by
      simp only [decode, hnone]
    rw [hdecode]
    cases hf : formatOf (opField w) with
    | none => simp [illegalReason, hf]
    | some f =>
      have hr : reservedClear f w = false := by
        rw [← Bool.not_eq_true]
        intro hclear
        simp [(wordWellFormed_iff w).mpr ⟨f, hf, hclear⟩] at hwf
      simp [illegalReason, hf, hr]

theorem wordWellFormed_eq_false_iff (w : CmdWord) :
    wordWellFormed w = false ↔ ∃ e, illegalReason w = some e := by
  rw [wordWellFormed, ← Bool.not_eq_true, Option.isNone_iff_eq_none, ← ne_eq, Option.ne_none_iff_exists']

/-! The row of a command, and the command of a row. -/

/-- Every command has a row of its opcode, and the operand fields of its word are its operands (R77). -/
theorem exists_row_of_instr (i : Instr) :
    ∃ r ∈ opcodeMap, opField (encode i) = opField r.pattern ∧ r.mnemonic.withOperands (encode i) = i := by
  cases i with
  | nop => exact ⟨⟨.nop, 0x00000000, 0xFFFFFFFF⟩, by decide, opField_encodeN _, rfl⟩
  | crcClear => exact ⟨⟨.crcClear, 0x01000000, 0xFFFFFFFF⟩, by decide, opField_encodeN _, rfl⟩
  | crcFeed b =>
    exact ⟨⟨.crcFeed, 0x02000000, 0xFFFFFF00⟩, by decide, opField_encodeB _ b,
      congrArg Instr.crcFeed (byteField_encodeB _ b)⟩
  | txBegin t n =>
    exact ⟨⟨.txBegin, 0x10000000, 0xFF000000⟩, by decide, opField_encodeT _ n t,
      congrArg₂ Instr.txBegin (typeField_encodeT _ n t) (lenField_encodeT _ n t)⟩
  | txData b =>
    exact ⟨⟨.txData, 0x11000000, 0xFFFFFF00⟩, by decide, opField_encodeB _ b,
      congrArg Instr.txData (byteField_encodeB _ b)⟩
  | txAbort => exact ⟨⟨.txAbort, 0x12000000, 0xFFFFFFFF⟩, by decide, opField_encodeN _, rfl⟩
  | rxRecv => exact ⟨⟨.rxRecv, 0x20000000, 0xFFFFFFFF⟩, by decide, opField_encodeN _, rfl⟩
  | rxRead a =>
    exact ⟨⟨.rxRead, 0x21000000, 0xFFFFFF00⟩, by decide, opField_encodeB _ a,
      congrArg Instr.rxRead (byteField_encodeB _ a)⟩
  | regRead a =>
    exact ⟨⟨.regRead, 0x30000000, 0xFFFFFF00⟩, by decide, opField_encodeB _ a,
      congrArg Instr.regRead (byteField_encodeB _ a)⟩

theorem wordWellFormed_encode (i : Instr) : wordWellFormed (encode i) = true := by
  cases i with
  | nop => exact Laws.EncodesWellFormed.nop
  | crcClear => exact Laws.EncodesWellFormed.crcClear
  | crcFeed b => exact Laws.EncodesWellFormed.crcFeed b
  | txBegin t n => exact Laws.EncodesWellFormed.txBegin t n
  | txData b => exact Laws.EncodesWellFormed.txData b
  | txAbort => exact Laws.EncodesWellFormed.txAbort
  | rxRecv => exact Laws.EncodesWellFormed.rxRecv
  | rxRead a => exact Laws.EncodesWellFormed.rxRead a
  | regRead a => exact Laws.EncodesWellFormed.regRead a

theorem encodeN_of_masked {op : Byte} {w : CmdWord} (h : w &&& Format.N.mask = encodeN op) : encodeN op = w := by
  obtain ⟨hop, hlow⟩ := (and_mask_eq_encodeN_iff w .N op).mp h
  exact encodeN_of_fields hop (beq_iff_eq.mp hlow)

theorem encodeB_of_masked {op : Byte} {w : CmdWord} (h : w &&& Format.B.mask = encodeN op) :
    encodeB op (byteField w) = w := by
  obtain ⟨hop, hmid⟩ := (and_mask_eq_encodeN_iff w .B op).mp h
  exact encodeB_of_fields hop (beq_iff_eq.mp hmid)

theorem encodeT_of_masked {op : Byte} {w : CmdWord} (h : w &&& Format.T.mask = encodeN op) :
    encodeT op (lenField w) (typeField w) = w :=
  encodeT_of_fields ((and_mask_eq_encodeN_iff w .T op).mp h).1

/-- The word of a row's command, with the operands of a word that the row fits, is that word. -/
theorem encode_withOperands {r : OpcodeRow} (hr : r ∈ opcodeMap) {w : CmdWord} (hrw : w &&& r.mask = r.pattern) :
    encode (r.mnemonic.withOperands w) = w := by
  simp only [opcodeMap, List.mem_cons, List.not_mem_nil, or_false] at hr
  rcases hr with rfl | rfl | rfl | rfl | rfl | rfl | rfl | rfl | rfl
  · exact encodeN_of_masked hrw
  · exact encodeN_of_masked hrw
  · exact encodeB_of_masked hrw
  · exact encodeT_of_masked hrw
  · exact encodeB_of_masked hrw
  · exact encodeN_of_masked hrw
  · exact encodeN_of_masked hrw
  · exact encodeB_of_masked hrw
  · exact encodeB_of_masked hrw

/-! The obligations of 30_encoding.md section 1. -/

/-- Settles O1: the row of the command's opcode fits its well-formed word, and gives back the operands. -/
theorem decodeOfEncode : Obligations.DecodeOfEncode := by
  intro i
  obtain ⟨r, hr, hop, hi⟩ := exists_row_of_instr i
  exact (decode_eq_ok_iff _ _).mpr ⟨r, hr, (OpcodeRow.fits_iff hr _).mpr ⟨hop, wordWellFormed_encode i⟩, hi.symm⟩

/-- Settles O2: the row that fits fixes every bit outside the operand fields. -/
theorem encodeOfDecode : Obligations.EncodeOfDecode := by
  intro w i h
  obtain ⟨r, hr, hrw, rfl⟩ := (decode_eq_ok_iff w i).mp h
  exact encode_withOperands hr ((r.fits_iff_masked_eq w).mp hrw)

/-- Settles O3: the decoder answers by the one row that fits. -/
theorem opcodeMapDecodesByItsOneFittingRow : Obligations.OpcodeMapDecodesByItsOneFittingRow := by
  refine ⟨rfl, fun w i => ?_, fun w r hr q hq hrw hqw => ?_⟩
  · simp only [decode_eq_ok_iff, OpcodeRow.fits_iff_masked_eq]
  · exact OpcodeRow.eq_of_fits hr hq ((r.fits_iff_masked_eq w).mpr hrw) ((q.fits_iff_masked_eq w).mpr hqw)

/-- Settles O5: each word is the word of the command it stands for. -/
theorem writtenWordsDecode : Obligations.WrittenWordsDecode :=
  ⟨decodeOfEncode .nop, decodeOfEncode .crcClear, decodeOfEncode (.crcFeed 0x31), decodeOfEncode (.txBegin 0x4001 0),
    decodeOfEncode (.txBegin 0x8800 244), decodeOfEncode (.txData 0xAA), decodeOfEncode .txAbort,
    decodeOfEncode .rxRecv, decodeOfEncode (.rxRead 3), decodeOfEncode (.regRead 1)⟩

end Sys2Proof
end

section
/-!
SUPPORT. The response words (30_encoding.md R80 to R83) and the step on an illegal command word (43_control.md R184).
-/
namespace Sys2Proof.Machine

/-! Illegal command words (R76, R184). -/

/-- A command step on an illegal word, for either reason, only completes with IllegalCommand (R184). -/
theorem step_of_decode_error {s : State} {w : CmdWord} {rest : List CmdWord} {e : IllegalReason}
    (hidle : s.rxState = .idle) (hcmd : s.cmd = w :: rest) (hdecode : decode w = .error e) :
    step s = ({ s with cmd := rest } : State).answered 0x10000000 := by
  have hselect : s.select = .command w { s with cmd := rest } := by simp [State.select, hidle, hcmd]
  simp only [step, hselect, hdecode]
  cases e with
  | unassignedOpcode => rfl
  | reservedBitSet => rfl

/-- Settles O4: the decoder refuses exactly the words that the fields call illegal, and the step on one only completes. -/
theorem illegalWordsCompleteAndDoNothingElse : Obligations.IllegalWordsCompleteAndDoNothingElse := by
  refine ⟨formatOf_eq_none_iff, fun w => ?_, fun s w rest hidle hcmd hill => ?_⟩
  · simp only [decode_eq_error_iff, ← wordWellFormed_eq_false_iff, ← Bool.not_eq_true, wordWellFormed_iff]
    cases formatOf (opField w) with
    | none => simp
    | some f => simp
  · obtain ⟨e, he⟩ := (wordWellFormed_eq_false_iff w).mp hill
    exact step_of_decode_error hidle hcmd ((decode_eq_error_iff w e).mpr he)

/-! The words that a step produces (R80 to R83). -/

/-- A completion word with DATA 0 unless its code is OK, or a SKIP event. -/
inductive DefinedResponse : RspWord → Prop where
  | ok (data : BitVec 24) : DefinedResponse (completionWord .ok data)
  | error (e : StatusCode) : DefinedResponse (completionWord e 0)
  | skip (b : Byte) : DefinedResponse (skipWord b)

/-- From s to t only defined response words were appended to RSP. -/
def AppendsDefined (s t : State) : Prop := ∃ r, t.rsp = s.rsp ++ r ∧ ∀ w ∈ r, DefinedResponse w

theorem AppendsDefined.of_one {s t : State} {w : RspWord} (hrsp : t.rsp = s.rsp ++ [w]) (hw : DefinedResponse w) :
    AppendsDefined s t :=
  ⟨[w], hrsp, by simpa using hw⟩

theorem AppendsDefined.of_rsp_eq {s t : State} (hrsp : t.rsp = s.rsp) : AppendsDefined s t :=
  ⟨[], by simp [hrsp], by simp⟩

/-- A defined response word is one of the words that R80 to R82 write out. -/
theorem DefinedResponse.cases_word {w : RspWord} (hw : DefinedResponse w) :
    (∃ d : BitVec 24, w = d.zeroExtend 32) ∨
    w ∈ [(0x01000000 : RspWord), 0x02000000, 0x03000000, 0x04000000, 0x05000000, 0x06000000, 0x07000000,
         0x10000000, 0x11000000, 0x12000000, 0x13000000] ∨
    ∃ b : Byte, w = 0x81000000 ||| b.zeroExtend 32 := by
  cases hw with
  | ok data => exact .inl ⟨data, by simp [completionWord, StatusCode.bits]⟩
  | skip b => exact .inr (.inr ⟨b, rfl⟩)
  | error e =>
    by_cases hok : e = .ok
    · subst hok
      exact .inl ⟨0, rfl⟩
    · exact .inr (.inl (by revert hok; cases e <;> decide))

theorem completeRead_appendsDefined {n : Nat} (s : State) (r : ReadResult n) : AppendsDefined s (s.completeRead r) := by
  rcases s.completeRead_cases r with ⟨v, _, h⟩ | ⟨e, _, h⟩
  · exact h ▸ .of_one rfl (.ok _)
  · exact h ▸ .of_one rfl (.error e)

theorem execTxBegin_appendsDefined {type : Half} {len : Byte} {s t : State} (h : execTxBegin type len s = .next t) :
    AppendsDefined s t := by
  rcases execTxBegin_cases type len s with ⟨_, hx⟩ | ⟨_, _, hx⟩ | ⟨_, _, hx⟩ | ⟨_, _, _, hx⟩ <;> cases hx.symm.trans h
  · exact .of_one rfl (.error .sequenceError)
  · exact .of_one rfl (.error .payloadTooLarge)
  · exact .of_one rfl (.ok 0)
  · exact .of_one rfl (.ok 0)

theorem execTxData_appendsDefined {b : Byte} {s t : State} (h : execTxData b s = .next t) : AppendsDefined s t := by
  rcases execTxData_cases b s with ⟨_, hx⟩ | ⟨_, _, hx⟩ | ⟨_, _, hx⟩ <;> cases hx.symm.trans h
  · exact .of_one rfl (.error .sequenceError)
  · exact .of_one rfl (.ok 0)
  · exact .of_one rfl (.ok 0)

/-- A command answers with OK and its data, or with an error and DATA 0 (60_exceptions.md R200); RX_RECV answers nothing. -/
theorem exec_appendsDefined {i : Instr} {s t : State} (h : exec i s = .next t) : AppendsDefined s t := by
  cases i with
  | nop => cases h; exact .of_one rfl (.ok 0)
  | crcClear => cases h; exact .of_one rfl (.ok _)
  | crcFeed b => cases h; exact .of_one rfl (.ok _)
  | txBegin type len => exact execTxBegin_appendsDefined h
  | txData b => exact execTxData_appendsDefined h
  | txAbort => cases h; exact .of_one rfl (.ok 0)
  | rxRecv => cases h; exact .of_rsp_eq rfl
  | rxRead a => cases h; exact completeRead_appendsDefined s _
  | regRead a => cases h; exact completeRead_appendsDefined s _

theorem ReaderEffect.appendsDefined {s t : State} (e : ReaderEffect s t) : AppendsDefined s t := by
  cases e with
  | fail _ _ code => exact .of_one rfl (.error code)
  | skip b _ => exact .of_one rfl (.skip b)
  | emit => exact .of_one rfl (.ok _)
  | sync => exact .of_rsp_eq rfl
  | length => exact .of_rsp_eq rfl
  | openBody => exact .of_rsp_eq rfl
  | bodyByte => exact .of_rsp_eq rfl

theorem step_appendsDefined {s t : State} (h : step s = .next t) : AppendsDefined s t := by
  rcases step_cases h with ⟨w, rest, i, _, _, _, hx⟩ | ⟨w, rest, _, _, _, _, rfl⟩ | ⟨x, rest, hi, _, rfl⟩
  · exact exec_appendsDefined (s := { s with cmd := rest }) hx
  · exact .of_one rfl (.error .illegalCommand)
  · exact (readerStep_effect (s := { s with rxi := rest }) x hi).appendsDefined

/-- Settles O13: what a step appends is fixed, and each word of it is a defined one. -/
theorem onlyDefinedResponseWordsAreProduced : Obligations.OnlyDefinedResponseWordsAreProduced := by
  intro s t h r hr w hw
  obtain ⟨r', hr', hdefined⟩ := step_appendsDefined h
  obtain rfl : r = r' := List.append_cancel_left (hr.symm.trans hr')
  exact (hdefined w hw).cases_word

end Sys2Proof.Machine
end

section
/-!
SUPPORT. The wire envelope by parts (30_encoding.md R86 to R89): the header's length fields, and the part that the checksum
covers.
-/
namespace Sys2Proof.Machine

@[simp] theorem envelopeHead_length (ctr : Word) (t : Half) (n : Nat) : (envelopeHead ctr t n).length = 12 := rfl

theorem envelope_eq (c : Config) (ctr : Word) (t : Half) (p : List Byte) :
    envelope c ctr t p =
      envelopeHead ctr t p.length ++ p ++ le16 (crc16 c (envelopeHead ctr t p.length ++ p)) := rfl

@[simp] theorem envelope_length (c : Config) (ctr : Word) (t : Half) (p : List Byte) :
    (envelope c ctr t p).length = 14 + p.length := by
  simp [envelope_eq]
  omega

/-- The checksum covers all bytes but its own two (R89). -/
theorem envelope_take_covered (c : Config) (ctr : Word) (t : Half) (p : List Byte) :
    (envelope c ctr t p).take (12 + p.length) = envelopeHead ctr t p.length ++ p := by
  rw [envelope_eq]
  exact List.take_left' (by simp)

/-- The length byte L is 11 + n for every payload that has an envelope (R87). -/
theorem lengthByte_toNat {n : Nat} (h : n ≤ 244) : (BitVec.ofNat 8 (overhead + n)).toNat = 11 + n := by
  simp only [overhead, BitVec.toNat_ofNat]
  omega

/-- The complement byte of a length byte, as an integer (R88). -/
theorem complementByte_toNat (l : Byte) : (255 - l).toNat = 255 - l.toNat := by
  bv_omega

/-- Settles O23: the length byte, its complement and the two bytes of the checksum. -/
theorem envelopeHasTheWireLayout : Obligations.EnvelopeHasTheWireLayout := by
  intro c ctr t p hp
  refine ⟨_, _, _, _, lengthByte_toNat hp, complementByte_toNat _, rfl, ?_, envelope_length c ctr t p⟩
  rw [envelope_take_covered]
  exact fromLe16_le16 _

end Sys2Proof.Machine
end

section
/-!
SUPPORT. The assembler's examples (30_encoding.md R84, R85; log 10).
-/
namespace Sys2Proof.Machine

/-- Settles O6, by evaluating the model's assembler on each example. -/
theorem assemblerExamplesAssemble : Obligations.AssemblerExamplesAssemble :=
  ⟨rfl, rfl, rfl, rfl, rfl, rfl, rfl, rfl, rfl, rfl⟩

end Sys2Proof.Machine
end

section
/-!
SUPPORT. The command words of the formats N, B and A by their fields (30_encoding.md R71, R72, R74, R76), and the completion
word of a command that succeeds (R80). The statements about a single command cite these.
-/
namespace Sys2Proof.Machine

/-- A word of an assigned opcode with a reserved bit set is refused, whatever the format (R76). -/
theorem reservedBitRefused_of_fields {w : CmdWord} {f : Format} (hf : formatOf (opField w) = some f)
    (hr : reservedClear f w = false) : ReservedBitRefused w := by
  have hdecode : decode w = .error .reservedBitSet :=
    (decode_eq_error_iff w _).mpr (by simp [illegalReason, hf, hr])
  exact ⟨hdecode, fun _ _ hidle hcmd => step_of_decode_error hidle hcmd hdecode⟩

/-- A command of format N is the word of its opcode with [23:0] = 0 (R71). -/
theorem encodedN_of_encode {op : Byte} {i : Instr} (hf : formatOf op = some .N) (hi : encode i = encodeN op) :
    EncodedN op i := by
  refine fun w hop => ⟨fun hlow => ?_, fun hlow => ?_⟩
  · rw [← encodeN_of_fields hop hlow, ← hi]
    exact decodeOfEncode i
  · exact reservedBitRefused_of_fields (f := .N) (hop ▸ hf) (beq_eq_false_iff_ne.mpr hlow)

/-- A command of format B or A is a word of its opcode with [23:8] = 0, and [7:0] is its operand (R72, R74). -/
theorem encodedB_of_encode {op : Byte} {mk : Byte → Instr} (hf : formatOf op = some .B ∨ formatOf op = some .A)
    (hmk : ∀ b, encode (mk b) = encodeB op b) : EncodedB op mk := by
  refine fun w hop => ⟨fun hmid => ?_, fun hmid => ?_⟩
  · have hw : encode (mk (byteField w)) = w := (hmk _).trans (encodeB_of_fields hop hmid)
    calc decode w = decode (encode (mk (byteField w))) := by rw [hw]
      _ = .ok (mk (byteField w)) := decodeOfEncode _
  · rcases hf with hf | hf
    · exact reservedBitRefused_of_fields (f := .B) (hop ▸ hf) (beq_eq_false_iff_ne.mpr hmid)
    · exact reservedBitRefused_of_fields (f := .A) (hop ▸ hf) (beq_eq_false_iff_ne.mpr hmid)

/-- CODE OK is 0, so the completion word of a success is its data (R80, R82). -/
theorem completionWord_ok (data : BitVec 24) : completionWord .ok data = data.zeroExtend 32 := by
  simp [completionWord, StatusCode.bits]

/-- Completing with a 16-bit value answers that value (R57). -/
theorem next_complete_half (s : State) (v : Half) :
    .next (s.complete .ok (v.zeroExtend 24)) = s.answered (v.zeroExtend 32) := by
  have hword : completionWord .ok (v.zeroExtend 24) = v.zeroExtend 32 := by
    rw [completionWord_ok]
    exact BitVec.setWidth_setWidth (by decide)
  rw [State.answered, ← hword]
  rfl

end Sys2Proof.Machine
end

section
/-!
SUPPORT. The checksum's one-byte update (40_crc.md R100, R106). A shift is linear over exclusive-or (`crcShift_xor`), and
while no set bit leaves the top it is a plain left shift; the table form splits the accumulator along these two facts.
-/
namespace Sys2Proof.Machine

/-! The shift (R100). -/

theorem crcShift_of_msb {poly c : Half} (h : c.msb = true) : crcShift poly c = c <<< 1 ^^^ poly := if_pos h

theorem crcShift_of_not_msb {poly c : Half} (h : c.msb = false) : crcShift poly c = c <<< 1 := by
  simp [crcShift, h]

theorem crcShift_eq (poly c : Half) : crcShift poly c = c <<< 1 ^^^ (if c.msb then poly else 0) := by
  cases h : c.msb with
  | true => exact crcShift_of_msb h
  | false => simp [crcShift_of_not_msb h]

/-- The shift is linear: the polynomial comes in twice, and cancels, when both top bits are set. -/
theorem crcShift_xor (poly a b : Half) : crcShift poly (a ^^^ b) = crcShift poly a ^^^ crcShift poly b := by
  have hcancel (p q : Bool) :
      (if p ^^ q then poly else 0) = (if p then poly else 0) ^^^ (if q then poly else 0) := by
    cases p <;> cases q <;> simp
  rw [crcShift_eq, crcShift_eq, crcShift_eq, BitVec.shiftLeft_xor_distrib, BitVec.msb_xor, hcancel]
  ac_rfl

theorem crcShift_iterate_xor (poly : Half) (n : Nat) (a b : Half) :
    (crcShift poly)^[n] (a ^^^ b) = (crcShift poly)^[n] a ^^^ (crcShift poly)^[n] b :=
  Function.Semiconj₂.iterate (op := (· ^^^ ·)) (crcShift_xor poly) n a b

/-- Shifts that push out no set bit are a left shift. -/
theorem crcShift_iterate_of_top_clear (poly c : Half) (n : Nat) (hc : ∀ i, 16 - n ≤ i → c.getLsbD i = false) :
    (crcShift poly)^[n] c = c <<< n := by
  induction n with
  | zero => simp
  | succ n ih =>
    have htop : (c <<< n).msb = false := by
      rw [BitVec.msb_eq_getLsbD_last, BitVec.getLsbD_shiftLeft, hc _ (by omega), Bool.and_false]
    rw [Function.iterate_succ_apply', ih fun i hi => hc i (by omega), crcShift_of_not_msb htop, ← BitVec.shiftLeft_add]

/-! The table form (R106). -/

/-- The accumulator with the byte entered: its high byte, exclusive-or the byte, above its low byte. -/
theorem xor_byte_eq_split (c : Half) (b : Byte) :
    c ^^^ (b.zeroExtend 16 <<< 8) =
      ((((c >>> 8).truncate 8 ^^^ b).zeroExtend 16) <<< 8) ^^^ ((c.truncate 8).zeroExtend 16) := by
  ext i hi
  by_cases h8 : i < 8
  · simp [h8, BitVec.getLsbD_eq_getElem hi]
  · have hlow : i - 8 < 8 := by omega
    have hback : 8 + (i - 8) = i := by omega
    simp [h8, hlow, hback, BitVec.getLsbD_eq_getElem hi]

/-- Eight shifts push the high byte out, so it need not be there. -/
theorem lowByte_shiftLeft_eight (c : Half) : ((c.truncate 8).zeroExtend 16 : Half) <<< 8 = c <<< 8 := by
  ext i hi
  have hlow : i - 8 < 8 := by omega
  simp [hlow, BitVec.getLsbD_eq_getElem (show i - 8 < 16 by omega)]

theorem crcStep_eq_table (poly c : Half) (b : Byte) :
    crcStep poly c b = (c <<< 8) ^^^ crcTable poly ((c >>> 8).truncate 8 ^^^ b) := by
  have hlow : (crcShift poly)^[8] ((c.truncate 8).zeroExtend 16) = c <<< 8 := by
    rw [crcShift_iterate_of_top_clear _ _ _ fun i hi => ?_, lowByte_shiftLeft_eight]
    have h8 : ¬ i < 8 := by omega
    simp [h8]
  have htable (i : Byte) : crcTable poly i = (crcShift poly)^[8] (i.zeroExtend 16 <<< 8) := by
    exact congrArg (crcShift poly)^[8] BitVec.zero_xor
  calc crcStep poly c b
      = (crcShift poly)^[8] (c ^^^ (b.zeroExtend 16 <<< 8)) := rfl
    _ = crcTable poly ((c >>> 8).truncate 8 ^^^ b) ^^^ c <<< 8 := by
        rw [xor_byte_eq_split, crcShift_iterate_xor, hlow, htable]
    _ = (c <<< 8) ^^^ crcTable poly ((c >>> 8).truncate 8 ^^^ b) := BitVec.xor_comm _ _

/-- Settles O18: the high byte goes through the table, and the low byte is only shifted. -/
theorem crcStepHasTableForm : Obligations.CrcStepHasTableForm :=
  ⟨crcStep_eq_table, by decide, by decide, by decide, by decide, by decide⟩

/-- Settles O19, by evaluating the model's checksum on each sequence. -/
theorem crcReferenceValues : Obligations.CrcReferenceValues :=
  ⟨by decide, by decide, by decide, by decide, by decide +kernel, by decide +kernel,
    by decide +kernel⟩

end Sys2Proof.Machine
end

section
/-!
SUPPORT. Single-bit errors (40_crc.md R107). The update and the checksum are linear, so flipping bit j of a byte changes
the checksum by what the shift makes of the single bit 8 + j (`crcFold_flipBit`). That is a power of x modulo the generator
x^16 + CRC_POLY, and it is never 0 because the generator has two terms. The proof keeps `PowerResidue` along the shifts:
with x^t the generator's lowest term, a power of x is either still below x^t, a single bit, or a multiple of x^t; on the
multiples of x^t a shift loses nothing, because the bit t that it writes comes from the polynomial alone.
-/
namespace Sys2Proof.Machine

/-! The checksum is linear (R100, R101). -/

theorem crcStep_xor_acc (poly c d : Half) (b : Byte) :
    crcStep poly (c ^^^ d) b = crcStep poly c b ^^^ (crcShift poly)^[8] d := by
  have hswap : (c ^^^ d) ^^^ (b.zeroExtend 16 <<< 8) = (c ^^^ (b.zeroExtend 16 <<< 8)) ^^^ d := by
    rw [BitVec.xor_assoc, BitVec.xor_comm d, ← BitVec.xor_assoc]
  exact (congrArg (crcShift poly)^[8] hswap).trans (crcShift_iterate_xor poly 8 _ _)

theorem crcStep_xor_byte (poly c : Half) (b e : Byte) :
    crcStep poly c (b ^^^ e) = crcStep poly c b ^^^ (crcShift poly)^[8] (e.zeroExtend 16 <<< 8) := by
  have henter : c ^^^ ((b ^^^ e).zeroExtend 16 <<< 8) =
      (c ^^^ (b.zeroExtend 16 <<< 8)) ^^^ (e.zeroExtend 16 <<< 8) := by
    rw [BitVec.xor_assoc, ← BitVec.shiftLeft_xor_distrib]
    exact congrArg (fun v : Half => c ^^^ v <<< 8) BitVec.setWidth_xor
  exact (congrArg (crcShift poly)^[8] henter).trans (crcShift_iterate_xor poly 8 _ _)

theorem crcFold_cons (poly c : Half) (b : Byte) (s : List Byte) :
    crcFold poly c (b :: s) = crcFold poly (crcStep poly c b) s := rfl

/-- A difference of the accumulators goes through eight shifts for each byte. -/
theorem crcFold_xor_acc (poly : Half) (s : List Byte) (c d : Half) :
    crcFold poly (c ^^^ d) s = crcFold poly c s ^^^ (crcShift poly)^[8 * s.length] d := by
  induction s generalizing c d with
  | nil => rfl
  | cons b s ih =>
    rw [crcFold_cons, crcFold_cons, crcStep_xor_acc, ih, ← Function.iterate_add_apply, List.length_cons, Nat.mul_succ]

/-- A flipped bit j enters the accumulator as the bit 8 + j. -/
theorem flippedBit_entered {j : Nat} (hj : j < 8) :
    ((((1 <<< j : ℕ) : Byte).zeroExtend 16) <<< 8 : Half) = BitVec.twoPow 16 (8 + j) := by
  interval_cases j <;> rfl

/-- Flipping bit j of byte k changes the checksum by the shifts that bit 8 + j goes through from byte k on. -/
theorem crcFold_flipBit (poly : Half) {s : List Byte} {k j : Nat} (hk : k < s.length) (hj : j < 8) (c : Half) :
    crcFold poly c (flipBit s k j) =
      crcFold poly c s ^^^ (crcShift poly)^[8 * (s.length - k)] (BitVec.twoPow 16 (8 + j)) := by
  induction s generalizing k c with
  | nil => exact absurd hk (Nat.not_lt_zero k)
  | cons b s ih =>
    cases k with
    | zero =>
      have hflip : flipBit (b :: s) 0 j = (b ^^^ ((1 <<< j : ℕ) : Byte)) :: s := rfl
      rw [hflip, crcFold_cons, crcStep_xor_byte, crcFold_xor_acc, flippedBit_entered hj, ← Function.iterate_add_apply]
      rfl
    | succ k =>
      have hflip : flipBit (b :: s) (k + 1) j = b :: flipBit s k j := rfl
      rw [hflip, crcFold_cons, ih (Nat.lt_of_succ_lt_succ hk), List.length_cons, Nat.add_sub_add_right]
      rfl

/-! The powers of x modulo the generator. -/

/-- c is not 0, and it has a bit below t only when it is that single bit. -/
def PowerResidue (t : Nat) (c : Half) : Prop :=
  c ≠ 0 ∧ ∀ i < t, c.getLsbD i = true → c = BitVec.twoPow 16 i

theorem PowerResidue.twoPow (t : Nat) {n : Nat} (hn : n < 16) : PowerResidue t (BitVec.twoPow 16 n) := by
  refine ⟨fun h => ?_, fun i _ hbit => ?_⟩
  · have hbit : (BitVec.twoPow 16 n).getLsbD n = true := by simp [hn]
    simp [h] at hbit
  · have hin : n = i := by simpa [hn] using hbit
    rw [hin]

/-- A shift that pushes out no set bit keeps the residue. -/
theorem PowerResidue.shiftLeft_one {t : Nat} {c : Half} (h : PowerResidue t c) (htop : c.msb = false) :
    PowerResidue t (c <<< 1) := by
  obtain ⟨hne, hlow⟩ := h
  refine ⟨fun hzero => hne ?_, fun i hi hbit => ?_⟩
  · have htop' : c.toNat < 2 ^ 15 := by simpa [BitVec.msb_eq_decide] using htop
    have hdouble : c.toNat * 2 % 2 ^ 16 = 0 := by simpa [Nat.shiftLeft_eq] using congrArg BitVec.toNat hzero
    bv_omega
  · obtain ⟨m, rfl⟩ : ∃ m, i = m + 1 := Nat.exists_eq_succ_of_ne_zero (by rintro rfl; simp at hbit)
    have hbelow : c.getLsbD m = true := by
      rw [BitVec.getLsbD_shiftLeft, Bool.and_eq_true] at hbit
      exact hbit.2
    rw [hlow m (by omega) hbelow, BitVec.twoPow_eq, BitVec.twoPow_eq, BitVec.shiftLeft_add]

/-- A shift that brings in the polynomial leaves the bits below t clear and sets bit t. -/
theorem PowerResidue.shiftLeft_xor {poly c : Half} {t : Nat} (ht : poly.getLsbD t = true)
    (hbelow : ∀ i < t, poly.getLsbD i = false) (h : PowerResidue t c) (htop : c.msb = true) :
    PowerResidue t (c <<< 1 ^^^ poly) := by
  have ht16 : t < 16 := BitVec.lt_of_getLsbD ht
  have hclear : ∀ i < t, c.getLsbD i = false := by
    intro i hi
    by_contra hbit
    have hc := h.2 i hi (by simpa using hbit)
    have hmsb : (BitVec.twoPow 16 i).msb = false := by
      simp [BitVec.msb_eq_getLsbD_last]
      omega
    rw [hc, hmsb] at htop
    exact Bool.noConfusion htop
  have hshifted : ∀ i ≤ t, (c <<< 1).getLsbD i = false := by
    intro i hi
    cases i with
    | zero => simp
    | succ m => simp [hclear m hi]
  refine ⟨fun hzero => ?_, fun i hi hbit => ?_⟩
  · have hbit : (c <<< 1 ^^^ poly).getLsbD t = true := by rw [BitVec.getLsbD_xor, hshifted t le_rfl, ht]; rfl
    simp [hzero] at hbit
  · rw [BitVec.getLsbD_xor, hshifted i hi.le, hbelow i hi] at hbit
    exact Bool.noConfusion hbit

theorem PowerResidue.shift {poly c : Half} {t : Nat} (ht : poly.getLsbD t = true)
    (hbelow : ∀ i < t, poly.getLsbD i = false) (h : PowerResidue t c) : PowerResidue t (crcShift poly c) := by
  cases htop : c.msb with
  | true => exact crcShift_of_msb htop ▸ h.shiftLeft_xor ht hbelow htop
  | false => exact crcShift_of_not_msb htop ▸ h.shiftLeft_one htop

/-- A non-zero polynomial has a lowest term. -/
theorem exists_lowest_bit {poly : Half} (hpoly : poly ≠ 0) :
    ∃ t, poly.getLsbD t = true ∧ ∀ i < t, poly.getLsbD i = false := by
  have hsome : ∃ t, poly.getLsbD t = true := by
    by_contra hnone
    exact hpoly (BitVec.eq_of_getLsbD_eq fun i _ => by simpa using not_exists.mp hnone i)
  exact ⟨Nat.find hsome, Nat.find_spec hsome, fun i hi => by simpa using Nat.find_min hsome hi⟩

/-- With a non-zero polynomial no number of shifts brings a single bit to 0. -/
theorem crcShift_iterate_twoPow_ne_zero {poly : Half} (hpoly : poly ≠ 0) {i : Nat} (hi : i < 16) (n : Nat) :
    (crcShift poly)^[n] (BitVec.twoPow 16 i) ≠ 0 := by
  obtain ⟨t, ht, hbelow⟩ := exists_lowest_bit hpoly
  have hresidue : PowerResidue t ((crcShift poly)^[n] (BitVec.twoPow 16 i)) := by
    induction n with
    | zero => exact .twoPow t hi
    | succ n ih => exact Function.iterate_succ_apply' (crcShift poly) n _ ▸ ih.shift ht hbelow
  exact hresidue.1

/-- Settles O21: the two checksums differ by the shifts of one bit, which are not 0. -/
theorem crcDetectsEverySingleBitChange : Obligations.CrcDetectsEverySingleBitChange := by
  intro c s k j hpoly hk hj heq
  have hdiff := crcFold_flipBit c.crcPoly hk hj c.crcInit
  rw [← crc16, ← crc16, heq] at hdiff
  have hne := crcShift_iterate_twoPow_ne_zero hpoly (show 8 + j < 16 by omega) (8 * (s.length - k))
  exact hne (by simpa using hdiff.symm)

end Sys2Proof.Machine
end

section
/-!
SUPPORT. The checksum commands (40_crc.md R103 to R105): what each does to the state, and what sequences of commands make
of CRC_ACC.
-/
namespace Sys2Proof.Machine

/-! The two commands (R103, R104). -/

theorem exec_crcClear (s : State) :
    exec .crcClear s = ({ s with crcAcc := s.cfg.crcInit } : State).answered (s.cfg.crcInit.zeroExtend 32) :=
  next_complete_half _ _

theorem exec_crcFeed (b : Byte) (s : State) :
    exec (.crcFeed b) s = ({ s with crcAcc := crcStep s.cfg.crcPoly s.crcAcc b } : State).answered
      ((crcStep s.cfg.crcPoly s.crcAcc b).zeroExtend 32) :=
  next_complete_half _ _

/-- Settles O16. -/
theorem crcClearLoadsInit : Obligations.CrcClearLoadsInit :=
  ⟨encodedN_of_encode rfl rfl, exec_crcClear⟩

/-- Settles O17. -/
theorem crcFeedFoldsOneByte : Obligations.CrcFeedFoldsOneByte :=
  ⟨encodedB_of_encode (.inl rfl) fun _ => rfl, fun s b => exec_crcFeed b s⟩

/-! Sequences of commands (R105). -/

theorem execAll_cons_of_next {i : Instr} {s s1 : State} (h : exec i s = .next s1) (is : List Instr) :
    execAll (i :: is) s = execAll is s1 := by
  simp only [execAll, h]

/-- A CRC_FEED for each byte folds the bytes into CRC_ACC and answers one word for each. When the newest response word
already held CRC_ACC, it does so again. -/
theorem execAll_crcFeeds (bs : List Byte) (s : State) (hlast : s.rsp.getLast? = some (s.crcAcc.zeroExtend 32)) :
    ∃ r, execAll (bs.map .crcFeed) s =
        .next { s with crcAcc := crcFold s.cfg.crcPoly s.crcAcc bs, rsp := r } ∧
      r.length = s.rsp.length + bs.length ∧
      r.getLast? = some ((crcFold s.cfg.crcPoly s.crcAcc bs).zeroExtend 32) := by
  induction bs generalizing s with
  | nil => exact ⟨s.rsp, rfl, rfl, hlast⟩
  | cons b bs ih =>
    obtain ⟨r, hrun, hlen, hlast'⟩ := ih
      { s with
        crcAcc := crcStep s.cfg.crcPoly s.crcAcc b
        rsp := s.rsp ++ [(crcStep s.cfg.crcPoly s.crcAcc b).zeroExtend 32] }
      List.getLast?_concat
    refine ⟨r, ?_, ?_, hlast'⟩
    · rw [List.map_cons, execAll_cons_of_next (exec_crcFeed b s), hrun]
      rfl
    · rw [hlen, List.length_append, List.length_singleton, List.length_cons]
      omega

/-- The pseudo-instruction CRC leaves the checksum in CRC_ACC and in the newest response word (30_encoding.md R85). -/
theorem execAll_pseudoCrc (s : State) (bs : List Byte) :
    ∃ r, execAll (pseudoCrc bs) s = .next { s with crcAcc := crc16 s.cfg bs, rsp := r } ∧
      r.length = s.rsp.length + 1 + bs.length ∧ r.getLast? = some ((crc16 s.cfg bs).zeroExtend 32) := by
  obtain ⟨r, hrun, hlen, hlast⟩ := execAll_crcFeeds bs
    { s with crcAcc := s.cfg.crcInit, rsp := s.rsp ++ [s.cfg.crcInit.zeroExtend 32] } List.getLast?_concat
  refine ⟨r, ?_, ?_, hlast⟩
  · rw [pseudoCrc, execAll_cons_of_next (exec_crcClear s), hrun]
    rfl
  · rw [hlen, List.length_append, List.length_singleton]

/-- Every command does to CRC_ACC what `crcEffect` says (10_state.md R27). -/
theorem exec_crcAcc {i : Instr} {s t : State} (h : exec i s = .next t) : t.crcAcc = crcEffect s.cfg s.crcAcc i := by
  cases i with
  | crcClear => cases h; rfl
  | crcFeed b => cases h; rfl
  | _ => simpa [crcEffect] using (exec_effect h).crcAcc

theorem execAll_crcAcc {is : List Instr} {s t : State} (h : execAll is s = .next t) :
    t.crcAcc = is.foldl (crcEffect s.cfg) s.crcAcc := by
  induction is generalizing s with
  | nil => cases h; rfl
  | cons i is ih =>
    obtain ⟨u, hu, e⟩ := exec_answers_effect i s
    have hcfg : u.cfg = s.cfg := e.frame.1
    have hrest := ih (execAll_cons_of_next hu is ▸ h)
    rw [hrest, hcfg, exec_crcAcc hu, List.foldl_cons]

/-- Settles O20: the pseudo-instruction by induction on the bytes, any sequence by induction on the commands. -/
theorem crcCommandsComputeTheChecksum : Obligations.CrcCommandsComputeTheChecksum := by
  refine ⟨fun s bs => ?_, fun is s t h => execAll_crcAcc h⟩
  obtain ⟨r, hrun, hlen, hlast⟩ := execAll_pseudoCrc s bs
  exact ⟨_, hrun, rfl, hlen, hlast⟩

end Sys2Proof.Machine
end

section
/-!
SUPPORT. The framer's commands (41_framer.md R124 to R126): the words of format T, and one equation for each outcome of
TX_BEGIN and TX_DATA, with everything the outcome leaves unchanged.
-/
namespace Sys2Proof.Machine

/-- A command of format T is every word of its opcode: no bit is reserved (30_encoding.md R73). -/
theorem encodedT_of_encode {op : Byte} {mk : Half → Byte → Instr}
    (hmk : ∀ type len, encode (mk type len) = encodeT op len type) : EncodedT op mk := by
  intro w hop
  have hw : encode (mk (typeField w) (lenField w)) = w := (hmk _ _).trans (encodeT_of_fields hop)
  calc decode w = decode (encode (mk (typeField w) (lenField w))) := by rw [hw]
    _ = .ok (mk (typeField w) (lenField w)) := decodeOfEncode _

/-! TX_BEGIN (R124). -/

theorem exec_txBegin_staging {s : State} (type : Half) (len : Byte) (hs : s.txStaging = true) :
    exec (.txBegin type len) s = s.answered 0x11000000 := by
  have h : execTxBegin type len s = .next (s.complete .sequenceError 0) := by
    simpa [hs] using execTxBegin_cases type len s
  exact h

theorem exec_txBegin_tooLarge {s : State} (type : Half) {len : Byte} (hs : s.txStaging = false) (hlen : 245 ≤ len.toNat) :
    exec (.txBegin type len) s = s.answered 0x07000000 := by
  rcases execTxBegin_cases type len s with ⟨hs', _⟩ | ⟨_, _, h⟩ | ⟨_, rfl, _⟩ | ⟨_, _, hmax, _⟩
  · exact absurd (hs.symm.trans hs') Bool.false_ne_true
  · exact h
  · exact absurd hlen (by decide)
  · omega

theorem exec_txBegin_empty {s : State} (type : Half) (hs : s.txStaging = false) :
    exec (.txBegin type 0) s = (s.emitFrame type []).answered 0x00000000 := by
  have h : execTxBegin type 0 s = .next ((s.emitFrame type []).complete .ok 0) := by
    simpa [hs] using execTxBegin_cases type 0 s
  exact h

theorem exec_txBegin_open {s : State} (type : Half) {len : Byte} (hs : s.txStaging = false) (hpos : 1 ≤ len.toNat)
    (hmax : len.toNat ≤ 244) :
    exec (.txBegin type len) s = (s.openStaging type len).answered 0x00000000 := by
  rcases execTxBegin_cases type len s with ⟨hs', _⟩ | ⟨_, hlen, _⟩ | ⟨_, rfl, _⟩ | ⟨_, _, _, h⟩
  · exact absurd (hs.symm.trans hs') Bool.false_ne_true
  · omega
  · exact absurd hpos (by decide)
  · exact h

/-- Settles O24: every word of the opcode, and one equation for each of the four outcomes. -/
theorem txBeginRefusesEmitsOrOpensAStaging : Obligations.TxBeginRefusesEmitsOrOpensAStaging := by
  refine ⟨encodedT_of_encode fun _ _ => rfl, fun s type len => ⟨?_, ?_, ?_, ?_⟩⟩
  · exact exec_txBegin_staging type len
  · exact exec_txBegin_tooLarge type
  · rintro hs rfl
    exact exec_txBegin_empty type hs
  · exact exec_txBegin_open type

/-! TX_DATA (R125). -/

theorem exec_txData_idle {s : State} (b : Byte) (hs : s.txStaging = false) :
    exec (.txData b) s = s.answered 0x11000000 := by
  have h : execTxData b s = .next (s.complete .sequenceError 0) := by
    simpa [hs] using execTxData_cases b s
  exact h

theorem exec_txData_more {s : State} (b : Byte) (hs : s.txStaging = true) (hmore : s.txFill.toNat + 1 < s.txLen.toNat) :
    exec (.txData b) s = (s.stageByte b).answered 0x00000000 := by
  have hne : s.txFill + 1 ≠ s.txLen := by bv_omega
  rcases execTxData_cases b s with ⟨hs', _⟩ | ⟨_, _, h⟩ | ⟨_, heq, _⟩
  · exact absurd (hs.symm.trans hs') Bool.noConfusion
  · exact h
  · exact absurd heq hne

/-- The byte that completes a frame is sent after the bytes already staged: `TX_BUF[0:TX_LEN]` is exactly these. -/
theorem exec_txData_last {s : State} (b : Byte) (hs : s.txStaging = true) (hmax : s.txLen.toNat ≤ 244)
    (hlast : s.txFill.toNat + 1 = s.txLen.toNat) :
    exec (.txData b) s =
      ({ s.emitFrame s.txType (s.txBuf.toList.take s.txFill.toNat ++ [b]) with
          txBuf := setByte s.txBuf s.txFill b } : State).answered 0x00000000 := by
  have heq : s.txFill + 1 = s.txLen := by bv_omega
  have hpayload : slice (setByte s.txBuf s.txFill b).toList 0 s.txLen.toNat =
      s.txBuf.toList.take s.txFill.toNat ++ [b] := by
    rw [slice_zero_eq_take (by simpa using hmax), ← hlast, setByte_take_succ _ _ _ (by omega)]
  rcases execTxData_cases b s with ⟨hs', _⟩ | ⟨_, hne, _⟩ | ⟨_, _, h⟩
  · exact absurd (hs.symm.trans hs') Bool.noConfusion
  · exact absurd heq hne
  · rw [hpayload] at h
    exact h

/-- Settles O25: the words of the opcode, and one equation for each of the three outcomes. The invariants bound TX_LEN. -/
theorem txDataStagesAndEmits : Obligations.TxDataStagesAndEmits := by
  refine ⟨encodedB_of_encode (.inl rfl) fun _ => rfl, fun s b hinv => ⟨?_, ?_, fun hs hlast => ?_⟩⟩
  · exact exec_txData_idle b
  · exact exec_txData_more b
  · obtain ⟨_, hstaging, _⟩ := hinv
    obtain ⟨_, hmax, _⟩ := hstaging hs
    exact exec_txData_last b hs hmax hlast

/-! TX_ABORT (R126). -/

theorem exec_txAbort (s : State) : exec .txAbort s = s.clearStaging.answered 0x00000000 := rfl

/-- Settles O26. -/
theorem txAbortDiscardsTheStagedFrame : Obligations.TxAbortDiscardsTheStagedFrame :=
  ⟨encodedN_of_encode rfl rfl, exec_txAbort⟩

end Sys2Proof.Machine
end

section
/-!
SUPPORT. What a step does to the framer (41_framer.md R127 to R130): by the step's effect, TXO and TX_CTR change by whole
frames only, and the framer is the three framer commands' alone.
-/
namespace Sys2Proof.Machine

/-- A command leaves TXO and TX_CTR alone, or it sends one whole frame and counts it (R127, R128). -/
theorem CommandEffect.txo_txCtr {i : Instr} {s t : State} (e : CommandEffect s i t) (hs : s.InvStaging) :
    (t.txo = s.txo ∧ t.txCtr = s.txCtr) ∨
    ∃ (type : Half) (p : List Byte), p.length ≤ 244 ∧
      t.txo = s.txo ++ envelope s.cfg s.txCtr type p ∧ t.txCtr = s.txCtr + 1 := by
  cases e with
  | emitEmpty type => exact .inr ⟨type, [], Nat.zero_le _, rfl, rfl⟩
  | emitStaged b hstaging =>
    obtain ⟨_, hmax, _⟩ := hs hstaging
    exact .inr ⟨s.txType, _, by simpa using hmax, rfl, rfl⟩
  | _ => exact .inl ⟨rfl, rfl⟩

/-- The framer's registers and TXO are the three framer commands' alone among the commands (10_state.md R28 to R33). -/
theorem CommandEffect.framer_txo {i : Instr} {s t : State} (e : CommandEffect s i t) :
    (t.framer = s.framer ∧ t.txo = s.txo) ∨
    (∃ type len, i = .txBegin type len) ∨ (∃ b, i = .txData b) ∨ i = .txAbort := by
  cases e with
  | emitEmpty type => exact .inr (.inl ⟨type, 0, rfl⟩)
  | openStaging type len => exact .inr (.inl ⟨type, len, rfl⟩)
  | stageByte b => exact .inr (.inr (.inl ⟨b, rfl⟩))
  | emitStaged b => exact .inr (.inr (.inl ⟨b, rfl⟩))
  | abort => exact .inr (.inr (.inr rfl))
  | _ => exact .inl ⟨rfl, rfl⟩

/-- Settles O27, by the effect of the step. -/
theorem counterCountsWholeFrames : Obligations.CounterCountsWholeFrames := by
  intro s t hinv h
  obtain ⟨_, hstaging, _⟩ := hinv
  rcases step_effect h with ⟨w, rest, i, _, _, _, e⟩ | ⟨w, rest, _, _, _, _, rfl⟩ | ⟨x, rest, _, _, e⟩
  · exact e.txo_txCtr hstaging
  · exact .inl ⟨rfl, rfl⟩
  · obtain ⟨_, _, _, htxo, _, hframer⟩ := e.frame
    exact .inl ⟨htxo, congrArg FramerRegs.ctr hframer⟩

/-- Settles O29, by the effect of the step. -/
theorem framerIsUntouchedByOtherSteps : Obligations.FramerIsUntouchedByOtherSteps := by
  intro s t h
  rcases step_effect h with ⟨w, rest, i, hi, hc, hd, e⟩ | ⟨w, rest, _, _, _, _, rfl⟩ | ⟨x, rest, _, _, e⟩
  · rcases e.framer_txo with hsame | ⟨type, len, rfl⟩ | ⟨b, rfl⟩ | rfl
    · exact .inl hsame
    · exact .inr ⟨w, rest, hi, hc, .inl ⟨type, len, hd⟩⟩
    · exact .inr ⟨w, rest, hi, hc, .inr (.inl ⟨b, hd⟩)⟩
    · exact .inr ⟨w, rest, hi, hc, .inr (.inr hd)⟩
  · exact .inl ⟨rfl, rfl⟩
  · obtain ⟨_, _, _, htxo, _, hframer⟩ := e.frame
    exact .inl ⟨hframer, htxo⟩

end Sys2Proof.Machine
end

section
/-!
SUPPORT. The pseudo-instruction TX_SEND (30_encoding.md R85, 41_framer.md R131): a TX_BEGIN and a TX_DATA for each byte
emit the frame of these bytes and leave a cleared framer.
-/
namespace Sys2Proof.Machine

/-- s after n commands that emitted a frame and answered OK each, with buf the bytes that staging left in TX_BUF. -/
def State.frameSent (s : State) (type : Half) (p : List Byte) (buf : Vector Byte 244) (n : Nat) : State :=
  { s.emitFrame type p with txBuf := buf, rsp := s.rsp ++ List.replicate n 0x00000000 }

/-- Staging a byte first is one more command. -/
theorem State.frameSent_stageByte (s : State) (b : Byte) (type : Half) (p : List Byte) (buf : Vector Byte 244) (n : Nat) :
    ((s.stageByte b).complete .ok 0).frameSent type p buf n = s.frameSent type p buf (n + 1) := by
  simp only [State.frameSent, State.complete_rsp, List.append_assoc]
  rfl

/-- Opening the staging first is one more command. -/
theorem State.frameSent_openStaging (s : State) (len : Byte) (type : Half) (p : List Byte) (buf : Vector Byte 244)
    (n : Nat) :
    ((s.openStaging type len).complete .ok 0).frameSent type p buf n = s.frameSent type p buf (n + 1) := by
  simp only [State.frameSent, State.complete_rsp, List.append_assoc]
  rfl

/-- A fill counter below a length takes its next value without wrapping. -/
theorem fill_succ_toNat {fill len : Byte} (h : fill.toNat < len.toNat) : (fill + 1).toNat = fill.toNat + 1 := by
  bv_omega

/-- TX_DATA for exactly the bytes that a staging still lacks completes its frame: the bytes staged before, then these. -/
theorem execAll_txDatas (b : Byte) (bs : List Byte) {s : State} (hs : s.txStaging = true) (hmax : s.txLen.toNat ≤ 244)
    (hlen : s.txFill.toNat + (b :: bs).length = s.txLen.toNat) :
    ∃ buf, execAll ((b :: bs).map .txData) s =
      .next (s.frameSent s.txType (s.txBuf.toList.take s.txFill.toNat ++ b :: bs) buf (b :: bs).length) := by
  induction bs generalizing b s with
  | nil => exact ⟨_, execAll_cons_of_next (exec_txData_last b hs hmax hlen) []⟩
  | cons b' bs ih =>
    simp only [List.length_cons] at hlen
    have hfill : (s.txFill + 1).toNat = s.txFill.toNat + 1 := fill_succ_toNat (len := s.txLen) (by omega)
    have hstaged : (setByte s.txBuf s.txFill b).toList.take (s.txFill + 1).toNat =
        s.txBuf.toList.take s.txFill.toNat ++ [b] := by
      rw [hfill, setByte_take_succ _ _ _ (by omega)]
    have hfirst : execAll ((b :: b' :: bs).map .txData) s =
        execAll ((b' :: bs).map .txData) ((s.stageByte b).complete .ok 0) :=
      execAll_cons_of_next (exec_txData_more b hs (by omega)) _
    obtain ⟨buf, hrest⟩ := ih b' (s := (s.stageByte b).complete .ok 0) hs hmax
      (by simp only [State.complete_txFill, State.complete_txLen, State.stageByte_txFill, State.stageByte_txLen,
            List.length_cons, hfill]
          omega)
    refine ⟨buf, ?_⟩
    rw [hfirst, hrest, State.frameSent_stageByte]
    simp only [State.complete_txBuf, State.complete_txFill, State.complete_txType, State.stageByte_txBuf,
      State.stageByte_txFill, State.stageByte_txType, hstaged, List.append_assoc, List.singleton_append, List.length_cons]

/-- The LEN field holds every length that TX_SEND can express (R131). -/
theorem lenOperand_toNat {n : Nat} (h : n < 256) : (BitVec.ofNat 8 n).toNat = n := by
  rw [BitVec.toNat_ofNat, Nat.mod_eq_of_lt h]

/-- From an idle framer the commands of TX_SEND emit the frame of their payload and answer OK for each command. -/
theorem execAll_txSend {s : State} (type : Half) (p : List Byte) (hs : s.txStaging = false) (hp : p.length ≤ 244) :
    ∃ buf, execAll (.txBegin type (BitVec.ofNat 8 p.length) :: p.map .txData) s =
      .next (s.frameSent type p buf (p.length + 1)) := by
  cases p with
  | nil => exact ⟨_, execAll_cons_of_next (exec_txBegin_empty type hs) []⟩
  | cons b bs =>
    have hlen : (BitVec.ofNat 8 (b :: bs).length).toNat = (b :: bs).length := lenOperand_toNat (by omega)
    have hpos : 1 ≤ (b :: bs).length := Nat.succ_pos _
    have hfirst : execAll (.txBegin type (BitVec.ofNat 8 (b :: bs).length) :: (b :: bs).map .txData) s =
        execAll ((b :: bs).map .txData) ((s.openStaging type (BitVec.ofNat 8 (b :: bs).length)).complete .ok 0) :=
      execAll_cons_of_next (exec_txBegin_open type hs (hpos.trans_eq hlen.symm) (hlen.trans_le hp)) _
    obtain ⟨buf, hrest⟩ := execAll_txDatas b bs
      (s := (s.openStaging type (BitVec.ofNat 8 (b :: bs).length)).complete .ok 0)
      rfl (hlen.trans_le hp) ((Nat.zero_add _).trans hlen.symm)
    refine ⟨buf, ?_⟩
    rw [hfirst, hrest, ← State.frameSent_openStaging s (BitVec.ofNat 8 (b :: bs).length)]
    rfl

/-- In an idle framer the registers that the emission clears are 0 already (10_state.md R42 (a)). -/
theorem State.clearStaging_of_idle {s : State} (hinv : s.InvIdleFramer) (hs : s.txStaging = false) :
    s.clearStaging = s := by
  obtain ⟨htype, hlen, hfill⟩ := hinv hs
  cases s
  simp_all [State.clearStaging]

/-- So sending a frame changes TXO, TX_CTR, TX_BUF and RSP alone. -/
theorem State.frameSent_of_idle {s : State} (hinv : s.InvIdleFramer) (hs : s.txStaging = false) (type : Half)
    (p : List Byte) (buf : Vector Byte 244) (n : Nat) :
    s.frameSent type p buf n =
      { s with txo := s.txo ++ envelope s.cfg s.txCtr type p, txCtr := s.txCtr + 1, txBuf := buf,
               rsp := s.rsp ++ List.replicate n 0x00000000 } :=
  calc s.frameSent type p buf n
    _ = { s.clearStaging with
            txo := s.txo ++ envelope s.cfg s.txCtr type p, txCtr := s.txCtr + 1, txBuf := buf,
            rsp := s.rsp ++ List.replicate n 0x00000000 } := rfl
    _ = _ := by rw [State.clearStaging_of_idle hinv hs]

theorem pseudoTxSend_eq (type : Half) {p : List Byte} (hp : p.length < 256) :
    pseudoTxSend type p = some (.txBegin type (BitVec.ofNat 8 p.length) :: p.map .txData) :=
  if_pos hp

/-- Settles O28: the commands emit the frame of the payload, and what they clear was 0 before. -/
theorem txSendEmitsTheEnvelope : Obligations.TxSendEmitsTheEnvelope := by
  refine fun s type p hinv hs => ⟨fun hp => ?_, fun hmin hmax => ?_⟩
  · obtain ⟨hidle, _⟩ := hinv
    obtain ⟨buf, hrun⟩ := execAll_txSend type p hs hp
    exact ⟨_, _, pseudoTxSend_eq type (by omega), hrun, State.frameSent_of_idle hidle hs type p buf _⟩
  · exact ⟨_, pseudoTxSend_eq type (by omega),
      exec_txBegin_tooLarge type hs (hmin.trans_eq (lenOperand_toNat (by omega)).symm)⟩

end Sys2Proof.Machine
end

section
/-!
SUPPORT. The reader's commands (42_reader.md R140, R155): their words, and one equation for each outcome of RX_READ.
-/
namespace Sys2Proof.Machine

theorem exec_rxRecv (s : State) :
    exec .rxRecv s = .next { s with rxValid := false, rxFill := 0, rxState := .seekSync } := rfl

/-- Settles O30. -/
theorem rxRecvOpensAReceive : Obligations.RxRecvOpensAReceive :=
  ⟨encodedN_of_encode rfl rfl, exec_rxRecv⟩

/-! RX_READ (R155). -/

theorem exec_rxRead_noFrame {s : State} (a : Byte) (hv : s.rxValid = false) :
    exec (.rxRead a) s = s.answered 0x13000000 := by
  have hread : s.readPayload a = .error .noFrame := if_pos hv
  rw [exec_rxRead, hread]
  rfl

theorem exec_rxRead_badAddress {s : State} {a : Byte} (hv : s.rxValid = true) (ha : s.rxPlen.toNat ≤ a.toNat) :
    exec (.rxRead a) s = s.answered 0x12000000 := by
  have hread : s.readPayload a = .error .badAddress := by
    rw [State.readPayload, if_neg (by simp [hv]), if_pos (BitVec.le_def.mpr ha)]
  rw [exec_rxRead, hread]
  rfl

theorem exec_rxRead_payload {s : State} {a b : Byte} (hv : s.rxValid = true) (ha : a.toNat < s.rxPlen.toNat)
    (hb : s.rxPayload.toList[a.toNat]? = some b) : exec (.rxRead a) s = s.answered (b.zeroExtend 32) := by
  have hread : s.readPayload a = .value b := by
    rw [State.readPayload, if_neg (by simp [hv]), if_neg (by simpa [BitVec.le_def] using ha), byteAt_of_getElem? hb]
  have hword : completionWord .ok (b.zeroExtend 24) = b.zeroExtend 32 := by
    rw [completionWord_ok]
    exact BitVec.setWidth_setWidth (by decide)
  rw [exec_rxRead, hread, ← hword]
  rfl

/-- Settles O41: the words of the opcode, and one equation for each outcome. The invariant bounds RX_PLEN by the array. -/
theorem rxReadAnswersThePayloadByte : Obligations.RxReadAnswersThePayloadByte := by
  refine ⟨encodedB_of_encode (.inr rfl) fun _ => rfl, fun s a hinv => ⟨?_, ?_, fun hv ha => ?_⟩⟩
  · exact exec_rxRead_noFrame a
  · exact exec_rxRead_badAddress
  · have hplen : s.rxPlen.toNat ≤ 244 := hinv hv
    have hlookup := List.getElem?_eq_getElem (l := s.rxPayload.toList) (i := a.toNat) (by simp; omega)
    exact ⟨_, hlookup, exec_rxRead_payload hv ha hlookup⟩

/-- Settles O44: RX_RECV clears VALID, and only the step that ends a receive sets it. -/
theorem noFrameIsVisibleDuringAReceive : Obligations.NoFrameIsVisibleDuringAReceive :=
  fun _ _ => step_keeps_noVisibleFrame

end Sys2Proof.Machine
end

section
/-!
SUPPORT. Validation (42_reader.md R147 to R152) of a body whose last two bytes are split off: each check in its order, the
frame that passes all of them, and what keeping it writes to RX_PAYLOAD.
-/
namespace Sys2Proof.Machine

/-! The two checksums of a body (R149). -/

theorem receivedChecksum_append (front : List Byte) (k0 k1 : Byte) :
    receivedChecksum (front ++ [k0, k1]) = fromLe16 k0 k1 := by
  have h0 : byteAt (front ++ [k0, k1]) front.length = k0 := byteAt_of_getElem? (by simp)
  have h1 : byteAt (front ++ [k0, k1]) (front.length + 1) = k1 := byteAt_of_getElem? (by simp)
  simp [receivedChecksum, h0, h1]

theorem slice_append_pair (front : List Byte) (k0 k1 : Byte) (n : Nat) :
    slice (front ++ [k0, k1]) n ((front ++ [k0, k1]).length - 2) = front.drop n := by
  rw [slice_eq_take_drop (Nat.sub_le _ _)]
  by_cases hn : n ≤ front.length
  · rw [List.drop_append_of_le_length hn]
    exact List.take_left' (by simp)
  · simp [show front.length ≤ n by omega]

theorem computedChecksum_append (c : Config) (l lc : Byte) (front : List Byte) (k0 k1 : Byte) :
    computedChecksum c l lc (front ++ [k0, k1]) = crc16 c ([syncByte, l, lc] ++ front) := by
  rw [computedChecksum, slice_append_pair, List.drop_zero]

/-! The checks in their order (R147). -/

/-- A body of at most one byte is malformed before its checksum is judged (R148). -/
theorem validateBody_of_length_lt_two (c : Config) (l lc : Byte) {body : List Byte} (h : body.length < 2) :
    validateBody c l lc body = .reject .malformedEnvelope := if_pos h

/-- With two bytes or more the checksum is judged next, then the length (R149, R150). -/
theorem validateBody_append (c : Config) (l lc : Byte) (front : List Byte) (k0 k1 : Byte) :
    validateBody c l lc (front ++ [k0, k1]) =
      if crc16 c ([syncByte, l, lc] ++ front) ≠ fromLe16 k0 k1 then .reject .checksumMismatch
      else if front.length < 9 then .reject .malformedEnvelope
      else unpackFrame (front ++ [k0, k1]) := by
  have hlen : (front ++ [k0, k1]).length = front.length + 2 := by simp
  rw [validateBody, computedChecksum_append, receivedChecksum_append, hlen, if_neg (by omega)]
  simp only [overhead, show front.length + 2 < 11 ↔ front.length < 9 by omega]

theorem validateBody_of_checksum_ne {c : Config} {l lc : Byte} {front : List Byte} {k0 k1 : Byte}
    (h : crc16 c ([syncByte, l, lc] ++ front) ≠ fromLe16 k0 k1) :
    validateBody c l lc (front ++ [k0, k1]) = .reject .checksumMismatch := by
  rw [validateBody_append, if_pos h]

theorem validateBody_of_length_lt_nine {c : Config} {l lc : Byte} {front : List Byte} {k0 k1 : Byte}
    (h : crc16 c ([syncByte, l, lc] ++ front) = fromLe16 k0 k1) (hlen : front.length < 9) :
    validateBody c l lc (front ++ [k0, k1]) = .reject .malformedEnvelope := by
  rw [validateBody_append, if_neg (not_not_intro h), if_pos hlen]

/-- A body with a good checksum and its nine header bytes: version, flags and start marker in this order, and the frame that
these bytes and the payload give (R151, R152). -/
theorem validateBody_of_header {c : Config} {l lc : Byte} (v c0 c1 c2 c3 f t0 t1 x : Byte) (p : List Byte) {k0 k1 : Byte}
    (h : crc16 c ([syncByte, l, lc] ++ ([v, c0, c1, c2, c3, f, t0, t1, x] ++ p)) = fromLe16 k0 k1) :
    validateBody c l lc ([v, c0, c1, c2, c3, f, t0, t1, x] ++ p ++ [k0, k1]) =
      if v ≠ versionByte then .reject .unsupportedVersion
      else if f ≠ flagsByte then .reject .unsupportedFlags
      else if x ≠ stxByte then .reject .malformedEnvelope
      else .accept ⟨fromLe32 c0 c1 c2 c3, fromLe16 t0 t1, p⟩ := by
  rw [validateBody_append, if_neg (not_not_intro h), if_neg (by simp), unpackFrame, slice_append_pair]
  rfl

/-- Validation never reports the end of the input. -/
theorem validateBody_ne_inputExhausted (c : Config) (l lc : Byte) (body : List Byte) :
    validateBody c l lc body ≠ .reject .inputExhausted := by
  unfold validateBody unpackFrame
  split_ifs
  all_goals exact nofun

/-- An accepted payload fits RX_PAYLOAD, because a body has at most 255 bytes (R42 (e)). -/
theorem payload_length_le_of_accept {c : Config} {l lc : Byte} {body : List Byte} {f : DecodedFrame}
    (h : validateBody c l lc body = .accept f) (hlen : body.length ≤ 255) : f.payload.length ≤ 244 := by
  obtain ⟨_, hpayload⟩ := validateBody_accept h
  omega

/-! Keeping the payload (R152). -/

theorem storePayload_getElem? (old : Vector Byte 244) (p : List Byte) (i : Nat) (hi : i < 244) :
    (storePayload old p).toList[i]? = some ((p[i]?).getD old[i]) := by
  simp [storePayload, hi]

/-- RX_PAYLOAD[0..n-1] holds the payload. -/
theorem storePayload_take (old : Vector Byte 244) {p : List Byte} (hp : p.length ≤ 244) :
    (storePayload old p).toList.take p.length = p := by
  apply List.ext_getElem?
  intro i
  by_cases hi : i < p.length
  · rw [List.getElem?_take_of_lt hi, storePayload_getElem? _ _ _ (by omega), List.getElem?_eq_getElem hi, Option.getD_some]
  · rw [List.getElem?_eq_none (by simp; omega), List.getElem?_eq_none (by omega)]

/-- The other entries of RX_PAYLOAD are unchanged. -/
theorem storePayload_getElem?_of_length_le (old : Vector Byte 244) {p : List Byte} {i : Nat} (hi : p.length ≤ i) :
    (storePayload old p).toList[i]? = old.toList[i]? := by
  by_cases h : i < 244
  · rw [storePayload_getElem? _ _ _ h, List.getElem?_eq_none hi, Option.getD_none]
    simp [h]
  · rw [List.getElem?_eq_none (by simp; omega), List.getElem?_eq_none (by simp; omega)]

end Sys2Proof.Machine
end

section
/-!
SUPPORT. The reader steps (42_reader.md R142 to R153): one equation for each outcome of each state, with everything the
outcome leaves unchanged.
-/
namespace Sys2Proof.Machine

/-- During a receive the step takes the item at the head of RXI (R141). -/
theorem step_reader {s : State} {x : RxItem} {rest : List RxItem} (hs : s.rxState ≠ .idle) (hr : s.rxi = x :: rest) :
    step s = .next (({ s with rxi := rest } : State).readerStep x) := by
  have hselect : s.select = .reader x { s with rxi := rest } := by simp [State.select, hs, hr]
  simp only [step, hselect]

/-- `End` in any state of a receive (R142). -/
theorem step_endOfInput {s : State} {rest : List RxItem} (hs : s.rxState ≠ .idle) (hr : s.rxi = .endOfInput :: rest) :
    step s = .next (({ s with rxi := rest } : State).endReceive .inputExhausted 0) := by
  rw [step_reader hs hr]
  rcases State.readerStep_cases { s with rxi := rest } .endOfInput hs with ⟨_, h⟩ | ⟨b, hb, _⟩
  · rw [h]
  · cases hb

/-- Settles O31. -/
theorem endOfInputEndsTheReceive : Obligations.EndOfInputEndsTheReceive :=
  fun _ _ hs hr => step_endOfInput hs hr

section Byte

variable {s : State} {b : Byte} {rest : List RxItem} (hr : s.rxi = .byte b :: rest)
include hr

/-! SEEK_SYNC (R143). -/

theorem step_seekSync (hs : s.rxState = .seekSync) : step s = .next (({ s with rxi := rest } : State).seekSyncStep b) := by
  rw [step_reader (by simp [hs]) hr]
  simp only [State.readerStep, hs]

theorem step_seekSync_sync (hs : s.rxState = .seekSync) (hb : b = syncByte) :
    step s = .next { s with rxi := rest, rxState := .readLen } := by
  rw [step_seekSync hr hs, State.seekSyncStep, if_pos hb]

theorem step_seekSync_skip (hs : s.rxState = .seekSync) (hb : b ≠ syncByte) :
    step s = ({ s with rxi := rest } : State).answered (skipWord b) := by
  rw [step_seekSync hr hs, State.seekSyncStep, if_neg hb]
  rfl

/-! READ_LEN (R144) and READ_LENC (R145). -/

theorem step_readLen (hs : s.rxState = .readLen) :
    step s = .next { s with rxi := rest, rxL := b, rxState := .readLenc } := by
  rw [step_reader (by simp [hs]) hr]
  simp only [State.readerStep, hs]
  rfl

theorem step_readLenc (hs : s.rxState = .readLenc) : step s = .next (({ s with rxi := rest } : State).readLencStep b) := by
  rw [step_reader (by simp [hs]) hr]
  simp only [State.readerStep, hs]

theorem step_readLenc_mismatch (hs : s.rxState = .readLenc) (hsum : s.rxL.toNat + b.toNat ≠ 255) :
    step s = .next (({ s with rxi := rest, rxLc := b } : State).endReceive .lengthComplementMismatch 0) := by
  rw [step_readLenc hr hs]
  exact congrArg _ (if_pos hsum)

/-- A length of 0 goes to validation at once, which finds the empty body malformed (R145, R148). -/
theorem step_readLenc_zero (hs : s.rxState = .readLenc) (hsum : s.rxL.toNat + b.toNat = 255) (hl : s.rxL = 0) :
    step s = .next (({ s with rxi := rest, rxLc := b } : State).endReceive .malformedEnvelope 0) := by
  have hvalidate : ({ s with rxi := rest, rxLc := b } : State).validate =
      ({ s with rxi := rest, rxLc := b } : State).endReceive .malformedEnvelope 0 := by
    rw [State.validate, validateBody_of_length_lt_two _ _ _ (by simp [hl])]
    rfl
  rw [step_readLenc hr hs, ← hvalidate]
  exact congrArg _ ((if_neg (not_not_intro hsum)).trans (if_pos hl))

theorem step_readLenc_body (hs : s.rxState = .readLenc) (hsum : s.rxL.toNat + b.toNat = 255) (hl : s.rxL ≠ 0) :
    step s = .next { s with rxi := rest, rxLc := b, rxState := .readBody } := by
  rw [step_readLenc hr hs]
  exact congrArg _ ((if_neg (not_not_intro hsum)).trans (if_neg hl))

/-! READ_BODY (R146). -/

theorem step_readBody (hs : s.rxState = .readBody) : step s = .next (({ s with rxi := rest } : State).readBodyStep b) := by
  rw [step_reader (by simp [hs]) hr]
  simp only [State.readerStep, hs]

theorem step_readBody_more (hs : s.rxState = .readBody) (hmore : s.rxFill.toNat + 1 < s.rxL.toNat) :
    step s = .next { s with rxi := rest, rxBody := setByte s.rxBody s.rxFill b, rxFill := s.rxFill + 1 } := by
  have hne : s.rxFill + 1 ≠ s.rxL := by bv_omega
  rw [step_readBody hr hs]
  exact congrArg _ (if_neg hne)

/-- The last body byte: `RX_BODY[0:RX_L]` is the bytes held before it and this one, and validation judges these. -/
theorem step_readBody_last (hs : s.rxState = .readBody) (hlast : s.rxFill.toNat + 1 = s.rxL.toNat) :
    step s = .next
      (({ s with rxi := rest, rxBody := setByte s.rxBody s.rxFill b, rxFill := s.rxFill + 1 } : State).conclude
        (validateBody s.cfg s.rxL s.rxLc (s.rxBody.toList.take s.rxFill.toNat ++ [b]))) := by
  have heq : s.rxFill + 1 = s.rxL := by bv_omega
  have hbody : slice (setByte s.rxBody s.rxFill b).toList 0 s.rxL.toNat =
      s.rxBody.toList.take s.rxFill.toNat ++ [b] := by
    rw [slice_zero_eq_take (by simp; omega), ← hlast, setByte_take_succ _ _ _ (by omega)]
  rw [step_readBody hr hs, ← hbody]
  exact congrArg _ (if_pos heq)

end Byte

/-- Settles O32. -/
theorem seekSyncSkipsUntilTheSyncByte : Obligations.SeekSyncSkipsUntilTheSyncByte :=
  fun _ _ _ hs hr => ⟨step_seekSync_sync hr hs, step_seekSync_skip hr hs⟩

/-- Settles O33. -/
theorem readLenKeepsTheLength : Obligations.ReadLenKeepsTheLength :=
  fun _ _ _ hs hr => step_readLen hr hs

/-- Settles O34. -/
theorem readLencChecksTheComplement : Obligations.ReadLencChecksTheComplement :=
  fun _ _ _ hs hr => ⟨step_readLenc_mismatch hr hs, step_readLenc_zero hr hs, step_readLenc_body hr hs⟩

/-- Settles O35. -/
theorem readBodyStoresTheByte : Obligations.ReadBodyStoresTheByte :=
  fun _ _ _ hs hr hmore => step_readBody_more hr hs hmore

end Sys2Proof.Machine
end

section
/-!
SUPPORT. The step on the last body byte (42_reader.md R146 to R153), by what validation says of the body.
-/
namespace Sys2Proof.Machine

/-- s with the last body byte b stored and the receive over: what the step on it does whatever validation says. -/
def State.bodyEnded (s : State) (b : Byte) (rest : List RxItem) : State :=
  { s with rxi := rest, rxBody := setByte s.rxBody s.rxFill b, rxState := .idle, rxFill := 0 }

/-- CODE OK is 0 and a payload length fits DATA, so the completion word of a kept frame is the length (R152). -/
theorem completionWord_ok_ofNat {n : Nat} (hn : n < 2 ^ 24) : completionWord .ok (BitVec.ofNat 24 n) = BitVec.ofNat 32 n := by
  rw [completionWord_ok]
  apply BitVec.eq_of_toNat_eq
  simp only [BitVec.truncate_eq_setWidth, BitVec.toNat_setWidth, BitVec.toNat_ofNat]
  omega

section LastByte

variable {s : State} {b : Byte} {rest : List RxItem} (hs : s.rxState = .readBody) (hr : s.rxi = .byte b :: rest)
  (hlast : s.rxFill.toNat + 1 = s.rxL.toNat)
include hs hr hlast

/-- A rejected body only ends the receive with its error (R147, R153). -/
theorem step_readBody_reject {e : StatusCode}
    (hv : validateBody s.cfg s.rxL s.rxLc (s.rxBody.toList.take s.rxFill.toNat ++ [b]) = .reject e) :
    step s = (s.bodyEnded b rest).answered (completionWord e 0) := by
  rw [step_readBody_last hr hs hlast, hv]
  rfl

/-- An accepted body's frame is kept, and the receive ends with the payload's length (R152, R153). -/
theorem step_readBody_accept {f : DecodedFrame}
    (hv : validateBody s.cfg s.rxL s.rxLc (s.rxBody.toList.take s.rxFill.toNat ++ [b]) = .accept f) :
    f.payload.length ≤ 244 ∧
    step s =
      ({ s.bodyEnded b rest with
          rxCtr := f.counter, rxType := f.messageType, rxPlen := BitVec.ofNat 8 f.payload.length,
          rxPayload := storePayload s.rxPayload f.payload, rxValid := true } : State).answered
        (BitVec.ofNat 32 f.payload.length) := by
  have hp : f.payload.length ≤ 244 := payload_length_le_of_accept hv (by simp; omega)
  refine ⟨hp, ?_⟩
  rw [step_readBody_last hr hs hlast, hv, ← completionWord_ok_ofNat (by omega)]
  rfl

end LastByte

/-- Settles O36: each check of validation in its order, then the frame that passes all of them. -/
theorem lastBodyByteValidatesInOrder : Obligations.LastBodyByteValidatesInOrder := by
  intro s b rest hs hr hlast
  refine ⟨fun hone => ?_, fun front k0 k1 hbody => ⟨fun hcrc => ?_, fun hcrc => ⟨fun hlen => ?_, ?_⟩⟩⟩
  · exact step_readBody_reject hs hr hlast (validateBody_of_length_lt_two _ _ _ (by simp; omega))
  · exact step_readBody_reject hs hr hlast (hbody ▸ validateBody_of_checksum_ne hcrc)
  · exact step_readBody_reject hs hr hlast (hbody ▸ validateBody_of_length_lt_nine hcrc hlen)
  · rintro v c0 c1 c2 c3 f t0 t1 x p rfl
    have hvalid := validateBody_of_header v c0 c1 c2 c3 f t0 t1 x p hcrc
    rw [← hbody] at hvalid
    refine ⟨fun hv => ?_, fun hv hf => ?_, fun hv hf hx => ?_, fun hv hf hx => ?_⟩
    · exact step_readBody_reject hs hr hlast (hvalid.trans (if_pos hv))
    · exact step_readBody_reject hs hr hlast (hvalid.trans (by rw [if_neg (not_not_intro hv), if_pos hf]))
    · exact step_readBody_reject hs hr hlast
        (hvalid.trans (by rw [if_neg (not_not_intro hv), if_neg (not_not_intro hf), if_pos hx]))
    · obtain ⟨hp, hstep⟩ := step_readBody_accept hs hr hlast
        (hvalid.trans (by rw [if_neg (not_not_intro hv), if_neg (not_not_intro hf), if_neg (not_not_intro hx)]))
      exact ⟨_, storePayload_take _ hp, fun i hi => storePayload_getElem?_of_length_le _ hi, hstep⟩

end Sys2Proof.Machine
end

section
/-!
SUPPORT. The whole-receive function (42_reader.md R154) on bytes: what skipped bytes add to it, what it says of a frame
whose bytes are all there, and what it has consumed when it ends in InputExhausted (R156).
-/
namespace Sys2Proof.Machine

@[simp] theorem onWire_append (f g : List Byte) : onWire (f ++ g) = onWire f ++ onWire g := List.map_append

@[simp] theorem onWire_cons (b : Byte) (f : List Byte) : onWire (b :: f) = .byte b :: onWire f := rfl

/-! The loop of SEEK_SYNC and the frame after it. -/

theorem receive_skip_cons (c : Config) {b : Byte} (hb : b ≠ syncByte) (items : List RxItem) :
    receive c (.byte b :: items) =
      ⟨skipWord b :: (receive c items).events, (receive c items).outcome, (receive c items).consumed + 1⟩ := by
  rw [receive, if_neg hb]

theorem receive_sync_cons (c : Config) (items : List RxItem) :
    receive c (.byte syncByte :: items) = receiveFrame c items := by
  rw [receive, if_pos rfl]

/-- Bytes without a sync byte give one SKIP event each, in order, and the receive goes on after them. -/
theorem receive_skip (c : Config) {g : List Byte} (hg : ∀ b ∈ g, b ≠ syncByte) (items : List RxItem) :
    receive c (onWire g ++ items) =
      ⟨g.map skipWord ++ (receive c items).events, (receive c items).outcome, g.length + (receive c items).consumed⟩ := by
  induction g with
  | nil => simp [onWire]
  | cons b g ih =>
    obtain ⟨hb, hg⟩ := List.forall_mem_cons.mp hg
    rw [onWire_cons, List.cons_append, receive_skip_cons c hb, ih hg, List.length_cons, Nat.add_right_comm]
    rfl

theorem receive_sync_length_complement (c : Config) (l lc : Byte) (items : List RxItem) :
    receive c (onWire [syncByte, l, lc] ++ items) = receiveBody c l lc 3 items :=
  receive_sync_cons c _

/-! The body. -/

theorem receiveBody_of_mismatch (c : Config) {l lc : Byte} (hsum : l.toNat + lc.toNat ≠ 255) (k : Nat)
    (items : List RxItem) : receiveBody c l lc k items = ⟨[], .failed .lengthComplementMismatch, k⟩ := if_pos hsum

theorem pullBytes_onWire (bs : List Byte) (items : List RxItem) : pullBytes bs.length (onWire bs ++ items) = .bytes bs := by
  induction bs with
  | nil => rfl
  | cons b bs ih => rw [onWire_cons, List.cons_append, List.length_cons, pullBytes, ih]

/-- A body whose bytes are all there is validated and consumed whole. -/
theorem receiveBody_onWire (c : Config) {l lc : Byte} (hsum : l.toNat + lc.toNat = 255) (k : Nat) {body : List Byte}
    (hlen : body.length = l.toNat) (items : List RxItem) :
    receiveBody c l lc k (onWire body ++ items) = ⟨[], (validateBody c l lc body).outcome, k + l.toNat⟩ := by
  rw [receiveBody, if_neg (not_not_intro hsum), ← hlen, pullBytes_onWire]

/-- After skipped bytes and a sync byte the receive is the frame's. -/
theorem receive_garbage_frame (c : Config) {g : List Byte} (hg : ∀ b ∈ g, b ≠ syncByte) (l lc : Byte)
    (items : List RxItem) :
    receive c (onWire (g ++ [syncByte, l, lc]) ++ items) =
      ⟨g.map skipWord ++ (receiveBody c l lc 3 items).events, (receiveBody c l lc 3 items).outcome,
        g.length + (receiveBody c l lc 3 items).consumed⟩ := by
  rw [onWire_append, List.append_assoc, receive_skip c hg, receive_sync_length_complement]

theorem receive_garbage_mismatch (c : Config) {g : List Byte} (hg : ∀ b ∈ g, b ≠ syncByte) {l lc : Byte}
    (hsum : l.toNat + lc.toNat ≠ 255) (items : List RxItem) :
    receive c (onWire (g ++ [syncByte, l, lc]) ++ items) =
      ⟨g.map skipWord, .failed .lengthComplementMismatch, g.length + 3⟩ := by
  rw [receive_garbage_frame c hg, receiveBody_of_mismatch c hsum, List.append_nil]

theorem receive_garbage_body (c : Config) {g : List Byte} (hg : ∀ b ∈ g, b ≠ syncByte) {l lc : Byte} {body : List Byte}
    (hsum : l.toNat + lc.toNat = 255) (hlen : body.length = l.toNat) (items : List RxItem) :
    receive c (onWire (g ++ [syncByte, l, lc] ++ body) ++ items) =
      ⟨g.map skipWord, (validateBody c l lc body).outcome, g.length + 3 + l.toNat⟩ := by
  rw [onWire_append, List.append_assoc, receive_garbage_frame c hg, receiveBody_onWire c hsum 3 hlen, List.append_nil,
    Nat.add_assoc]

/-! The end of the input (R142, R156). -/

/-- The first j items are bytes followed by the first `End`. -/
def EndsAfter (items : List RxItem) (j : Nat) : Prop :=
  ∃ pre post, items = pre ++ .endOfInput :: post ∧ .endOfInput ∉ pre ∧ j = pre.length + 1

theorem EndsAfter.here (items : List RxItem) : EndsAfter (.endOfInput :: items) 1 :=
  ⟨[], items, rfl, List.not_mem_nil, rfl⟩

theorem EndsAfter.cons {items : List RxItem} {j : Nat} (h : EndsAfter items j) (b : Byte) :
    EndsAfter (.byte b :: items) (j + 1) := by
  obtain ⟨pre, post, rfl, hpre, rfl⟩ := h
  exact ⟨.byte b :: pre, post, rfl, by simpa using hpre, rfl⟩

theorem EndsAfter.of_pullBytes {n j : Nat} {items : List RxItem} (h : pullBytes n items = .ended j) :
    EndsAfter items j := by
  induction n, items using pullBytes.induct generalizing j with
  | case1 => simp [pullBytes] at h
  | case2 => simp [pullBytes] at h
  | case3 =>
    cases h
    exact .here _
  | case4 n b items bs hrest ih => simp [pullBytes, hrest] at h
  | case5 n b items k hrest ih => simp [pullBytes, hrest] at h
  | case6 n b items k hrest ih =>
    obtain rfl : k + 1 = j := by simpa [pullBytes, hrest] using h
    exact (ih hrest).cons b

theorem EndsAfter.of_receiveBody {c : Config} {l lc : Byte} {k : Nat} {items : List RxItem}
    (h : (receiveBody c l lc k items).outcome = .failed .inputExhausted) :
    ∃ j, (receiveBody c l lc k items).consumed = k + j ∧ EndsAfter items j := by
  by_cases hsum : l.toNat + lc.toNat = 255
  · cases hpull : pullBytes l.toNat items with
    | bytes body =>
      simp only [receiveBody, if_neg (not_not_intro hsum), hpull] at h
      cases hv : validateBody c l lc body with
      | accept f => simp [hv, Verdict.outcome] at h
      | reject e =>
        rw [hv] at h
        cases h
        exact absurd hv (validateBody_ne_inputExhausted c l lc body)
    | blocked j => simp [receiveBody, hsum, hpull] at h
    | ended j => exact ⟨j, by simp [receiveBody, hsum, hpull], .of_pullBytes hpull⟩
  · rw [receiveBody_of_mismatch c hsum] at h
    cases h

theorem EndsAfter.of_receiveFrame {c : Config} {items : List RxItem}
    (h : (receiveFrame c items).outcome = .failed .inputExhausted) :
    ∃ j, (receiveFrame c items).consumed = 1 + j ∧ EndsAfter items j := by
  match items, h with
  | .endOfInput :: rest, _ => exact ⟨1, rfl, .here rest⟩
  | .byte l :: .endOfInput :: rest, _ => exact ⟨2, rfl, (EndsAfter.here rest).cons l⟩
  | .byte l :: .byte lc :: rest, h =>
    obtain ⟨j, hj, hend⟩ := EndsAfter.of_receiveBody (c := c) (l := l) (lc := lc) (k := 3) h
    exact ⟨j + 2, hj.trans (by omega), (hend.cons lc).cons l⟩

/-- A receive that ends in InputExhausted has consumed every item up to and including the first `End`. -/
theorem EndsAfter.of_receive {c : Config} {items : List RxItem}
    (h : (receive c items).outcome = .failed .inputExhausted) : EndsAfter items (receive c items).consumed := by
  induction items with
  | nil => cases h
  | cons x items ih =>
    cases x with
    | endOfInput => exact .here items
    | byte b =>
      by_cases hb : b = syncByte
      · subst hb
        rw [receive_sync_cons] at h ⊢
        obtain ⟨j, hj, hend⟩ := EndsAfter.of_receiveFrame h
        rw [hj, Nat.add_comm]
        exact hend.cons syncByte
      · rw [receive_skip_cons c hb] at h ⊢
        exact (ih h).cons b

/-- Settles O38. -/
theorem receiveConsumesByOutcome : Obligations.ReceiveConsumesByOutcome :=
  fun c => ⟨fun _ _ _ rest hg hsum => receive_garbage_mismatch c hg hsum rest,
    fun _ _ _ _ rest hg hsum hlen => receive_garbage_body c hg hsum hlen rest, fun _ h => EndsAfter.of_receive h⟩

end Sys2Proof.Machine
end

section
/-!
SUPPORT. The reader steps compute the whole-receive function (42_reader.md R154). `State.Computes s k r` says that the steps
from s, of whose receive k items are taken already, carry out what r says: it is proved for the four states of a receive
from the last to the first, each from the equation of its reader step.
-/
namespace Sys2Proof.Machine

/-! What it is to carry out a receive. -/

/-- How the outcome of a receive that passed through s shows in the reader and the decoded frame of t. -/
def State.ShowsOutcome (s t : State) (o : ReceiveOutcome) : Prop :=
  match o with
  | .blocked => t.Waiting ∧ t.rxValid = s.rxValid ∧ t.frameRegs = s.frameRegs
  | .failed _ => t.rxState = .idle ∧ t.rxFill = 0 ∧ t.rxValid = s.rxValid ∧ t.frameRegs = s.frameRegs
  | .ok f => t.rxState = .idle ∧ t.rxFill = 0 ∧ t.rxValid = true ∧ t.rxCtr = f.counter ∧
      t.rxType = f.messageType ∧ t.rxPlen.toNat = f.payload.length ∧
      t.rxPayload.toList.take f.payload.length = f.payload

/-- m steps lead from s to t, append the events and the completion word of r to RSP, take m items from RXI, and leave
everything outside the reader alone. -/
structure State.CarriesOut (s : State) (r : Received) (m : Nat) (t : State) : Prop where
  run : runSteps m s = .next t
  rsp : t.rsp = s.rsp ++ r.events ++ r.outcome.completion
  rxi : t.rxi = s.rxi.drop m
  cfg : t.cfg = s.cfg
  cmd : t.cmd = s.cmd
  txo : t.txo = s.txo
  crcAcc : t.crcAcc = s.crcAcc
  framer : t.framer = s.framer
  shows : s.ShowsOutcome t r.outcome

/-- From s, with k items of the receive already taken, the steps carry out r. -/
def State.Computes (s : State) (k : Nat) (r : Received) : Prop := ∃ m t, r.consumed = k + m ∧ s.CarriesOut r m t

theorem runSteps_succ_of_next {s s1 : State} (h : step s = .next s1) (m : Nat) : runSteps (m + 1) s = runSteps m s1 := by
  simp only [runSteps, h]

/-- s after a reader step that took one item and wrote only the reader's own registers. -/
def State.withReader (s : State) (rest : List RxItem) (r : ReaderRegs) : State :=
  { s with rxi := rest, rxState := r.state, rxL := r.l, rxLc := r.lc, rxFill := r.fill, rxBody := r.body }

/-! A verdict carried out (R152, R153). -/

theorem State.conclude_rsp (s : State) (v : Verdict) : (s.conclude v).rsp = s.rsp ++ v.outcome.completion := by
  cases v with
  | accept f => rfl
  | reject e => rfl

theorem State.conclude_outside (s : State) (v : Verdict) :
    (s.conclude v).rxi = s.rxi ∧ (s.conclude v).cfg = s.cfg ∧ (s.conclude v).cmd = s.cmd ∧ (s.conclude v).txo = s.txo ∧
    (s.conclude v).crcAcc = s.crcAcc ∧ (s.conclude v).framer = s.framer := by
  cases v with
  | accept f => exact ⟨rfl, rfl, rfl, rfl, rfl, rfl⟩
  | reject e => exact ⟨rfl, rfl, rfl, rfl, rfl, rfl⟩

theorem State.conclude_shows (s : State) {v : Verdict} (hfit : ∀ f, v = .accept f → f.payload.length ≤ 244) :
    s.ShowsOutcome (s.conclude v) v.outcome := by
  cases v with
  | reject e => exact ⟨rfl, rfl, rfl, rfl⟩
  | accept f =>
    have hf := hfit f rfl
    exact ⟨rfl, rfl, rfl, rfl, rfl, lenOperand_toNat (by omega), storePayload_take _ hf⟩

/-! One step, then the rest of the receive. -/

section Computes

variable {s : State} {k : Nat}

/-- With no item left the receive waits (R154 BLOCKED). -/
theorem State.Computes.blocked (hs : s.rxState ≠ .idle) (hr : s.rxi = []) : s.Computes k ⟨[], .blocked, k⟩ :=
  ⟨0, s, rfl, rfl, by simp [ReceiveOutcome.completion], rfl, rfl, rfl, rfl, rfl, rfl, ⟨hs, hr⟩, rfl, rfl⟩

variable {x : RxItem} {rest : List RxItem} (hr : s.rxi = x :: rest)
include hr

/-- A step that concludes the receive, and whose frame, if it keeps one, fits RX_PAYLOAD. -/
theorem State.Computes.of_conclude {regs : ReaderRegs} {v : Verdict}
    (hstep : step s = .next ((s.withReader rest regs).conclude v))
    (hfit : ∀ f, v = .accept f → f.payload.length ≤ 244) : s.Computes k ⟨[], v.outcome, k + 1⟩ := by
  obtain ⟨hrxi, hcfg, hcmd, htxo, hacc, hframer⟩ := (s.withReader rest regs).conclude_outside v
  exact ⟨1, _, rfl, runSteps_succ_of_next hstep 0, by rw [List.append_nil]; exact (s.withReader rest regs).conclude_rsp v,
    by rw [hr]; exact hrxi, hcfg, hcmd, htxo, hacc, hframer, (s.withReader rest regs).conclude_shows hfit⟩

/-- A step that goes on with the receive and answers nothing. -/
theorem State.Computes.of_step {regs : ReaderRegs} {r : Received} (hstep : step s = .next (s.withReader rest regs))
    (h : (s.withReader rest regs).Computes (k + 1) r) : s.Computes k r := by
  obtain ⟨m, t, hconsumed, hrun, hrsp, hrxi, hcfg, hcmd, htxo, hacc, hframer, hshows⟩ := h
  exact ⟨m + 1, t, hconsumed.trans (by omega), (runSteps_succ_of_next hstep m).trans hrun, hrsp, by rw [hr]; exact hrxi,
    hcfg, hcmd, htxo, hacc, hframer, hshows⟩

/-- A step that skips a byte adds one event and one item. -/
theorem State.Computes.of_skip {b : Byte} {r : Received}
    (hstep : step s = ({ s with rxi := rest } : State).answered (skipWord b))
    (h : ({ s with rxi := rest, rsp := s.rsp ++ [skipWord b] } : State).Computes k r) :
    s.Computes k ⟨skipWord b :: r.events, r.outcome, r.consumed + 1⟩ := by
  obtain ⟨m, t, hconsumed, hrun, hrsp, hrxi, hcfg, hcmd, htxo, hacc, hframer, hshows⟩ := h
  exact ⟨m + 1, t, congrArg (· + 1) hconsumed, (runSteps_succ_of_next hstep m).trans hrun, by simpa using hrsp,
    by rw [hr]; exact hrxi, hcfg, hcmd, htxo, hacc, hframer, hshows⟩

/-- `End` ends the receive with InputExhausted (R142). -/
theorem State.Computes.ended (hs : s.rxState ≠ .idle) (hx : x = .endOfInput) :
    s.Computes k ⟨[], .failed .inputExhausted, k + 1⟩ :=
  .of_conclude hr (regs := s.reader) (v := .reject .inputExhausted) (step_endOfInput hs (hx ▸ hr)) nofun

end Computes

/-! The body (R146). -/

/-- A body of which the bytes held are taken already and n are still to come, with k items taken: what R154 makes of the
items that follow. -/
def receiveRest (c : Config) (l lc : Byte) (held : List Byte) (k n : Nat) (items : List RxItem) : Received :=
  match pullBytes n items with
  | .bytes bs => ⟨[], (validateBody c l lc (held ++ bs)).outcome, k + n⟩
  | .blocked j => ⟨[], .blocked, k + j⟩
  | .ended j => ⟨[], .failed .inputExhausted, k + j⟩

theorem receiveBody_eq_rest (c : Config) {l lc : Byte} (hsum : l.toNat + lc.toNat = 255) (k : Nat) (items : List RxItem) :
    receiveBody c l lc k items = receiveRest c l lc [] k l.toNat items := if_neg (not_not_intro hsum)

theorem receiveRest_zero (c : Config) (l lc : Byte) (held : List Byte) (k : Nat) (items : List RxItem) :
    receiveRest c l lc held k 0 items = ⟨[], (validateBody c l lc held).outcome, k⟩ := by
  simp [receiveRest, pullBytes]

theorem receiveRest_byte (c : Config) (l lc : Byte) (held : List Byte) (k n : Nat) (b : Byte) (items : List RxItem) :
    receiveRest c l lc held k (n + 1) (.byte b :: items) = receiveRest c l lc (held ++ [b]) (k + 1) n items := by
  simp only [receiveRest, pullBytes]
  cases pullBytes n items with
  | bytes bs => simp; omega
  | blocked j => simp; omega
  | ended j => simp; omega

/-- READ_BODY with n + 1 bytes still to come. -/
theorem computes_readBody {s : State} (n k : Nat) (hs : s.rxState = .readBody)
    (hlen : s.rxFill.toNat + (n + 1) = s.rxL.toNat) :
    s.Computes k (receiveRest s.cfg s.rxL s.rxLc (s.rxBody.toList.take s.rxFill.toNat) k (n + 1) s.rxi) := by
  have hbusy : s.rxState ≠ .idle := by simp [hs]
  induction hr : s.rxi generalizing s n k with
  | nil => exact .blocked hbusy hr
  | cons x rest ih =>
    cases x with
    | endOfInput => exact .ended hr hbusy rfl
    | byte b =>
      rw [receiveRest_byte]
      cases n with
      | zero =>
        rw [receiveRest_zero]
        exact .of_conclude hr (regs := ⟨s.rxState, s.rxL, s.rxLc, s.rxFill + 1, setByte s.rxBody s.rxFill b⟩)
          (step_readBody_last hr hs hlen) fun f hv => payload_length_le_of_accept hv (by simp; omega)
      | succ n =>
        have hfill : (s.rxFill + 1).toNat = s.rxFill.toNat + 1 := fill_succ_toNat (len := s.rxL) (by omega)
        have hheld : (setByte s.rxBody s.rxFill b).toList.take (s.rxFill + 1).toNat =
            s.rxBody.toList.take s.rxFill.toNat ++ [b] := by
          rw [hfill, setByte_take_succ _ _ _ (by omega)]
        have hrest := ih
          (s := s.withReader rest ⟨s.rxState, s.rxL, s.rxLc, s.rxFill + 1, setByte s.rxBody s.rxFill b⟩)
          n (k + 1) hs (by simp only [State.withReader, hfill]; omega) hbusy rfl
        rw [← hheld]
        exact .of_step hr (regs := ⟨s.rxState, s.rxL, s.rxLc, s.rxFill + 1, setByte s.rxBody s.rxFill b⟩)
          (step_readBody_more hr hs (by omega)) hrest

/-! The states before the body (R143 to R145). -/

/-- READ_LENC. -/
theorem computes_readLenc {s : State} (k : Nat) (hs : s.rxState = .readLenc) (hfill : s.rxFill = 0) {lc : Byte}
    {rest : List RxItem} (hr : s.rxi = .byte lc :: rest) :
    s.Computes k (receiveBody s.cfg s.rxL lc (k + 1) rest) := by
  by_cases hsum : s.rxL.toNat + lc.toNat = 255
  · rw [receiveBody_eq_rest _ hsum]
    by_cases hl : s.rxL = 0
    · have hnone : receiveRest s.cfg s.rxL lc [] (k + 1) s.rxL.toNat rest =
          ⟨[], (Verdict.reject .malformedEnvelope).outcome, k + 1⟩ := by
        rw [hl]
        exact receiveRest_zero _ _ _ _ _ _
      rw [hnone]
      exact .of_conclude hr (regs := ⟨s.rxState, s.rxL, lc, s.rxFill, s.rxBody⟩) (step_readLenc_zero hr hs hsum hl)
        nofun
    · obtain ⟨n, hn⟩ : ∃ n, s.rxL.toNat = n + 1 := Nat.exists_eq_succ_of_ne_zero (by bv_omega)
      have hbody := computes_readBody (s := s.withReader rest ⟨.readBody, s.rxL, lc, s.rxFill, s.rxBody⟩) n (k + 1) rfl
        (by simp [State.withReader, hfill, hn])
      rw [hn]
      refine .of_step hr (regs := ⟨.readBody, s.rxL, lc, s.rxFill, s.rxBody⟩) (step_readLenc_body hr hs hsum hl) ?_
      simpa [State.withReader, hfill] using hbody
  · rw [receiveBody_of_mismatch _ hsum]
    exact .of_conclude hr (regs := ⟨s.rxState, s.rxL, lc, s.rxFill, s.rxBody⟩) (v := .reject .lengthComplementMismatch)
      (step_readLenc_mismatch hr hs hsum) nofun

/-- READ_LEN, after the sync byte. -/
theorem computes_readLen {s : State} (hs : s.rxState = .readLen) (hfill : s.rxFill = 0) :
    s.Computes 1 (receiveFrame s.cfg s.rxi) := by
  have hbusy : s.rxState ≠ .idle := by simp [hs]
  match hr : s.rxi with
  | [] => exact .blocked hbusy hr
  | .endOfInput :: rest => exact .ended hr hbusy rfl
  | .byte l :: rest =>
    have hbusy1 : (s.withReader rest ⟨.readLenc, l, s.rxLc, s.rxFill, s.rxBody⟩).rxState ≠ .idle := by
      simp [State.withReader]
    refine .of_step hr (regs := ⟨.readLenc, l, s.rxLc, s.rxFill, s.rxBody⟩) (step_readLen hr hs) ?_
    match rest with
    | [] => exact .blocked hbusy1 rfl
    | .endOfInput :: rest => exact .ended rfl hbusy1 rfl
    | .byte lc :: rest =>
      exact computes_readLenc
        (s := s.withReader (.byte lc :: rest) ⟨.readLenc, l, s.rxLc, s.rxFill, s.rxBody⟩) 2 rfl hfill rfl

/-- SEEK_SYNC, from the start of the receive. -/
theorem computes_seekSync {s : State} (hs : s.rxState = .seekSync) (hfill : s.rxFill = 0) :
    s.Computes 0 (receive s.cfg s.rxi) := by
  have hbusy : s.rxState ≠ .idle := by simp [hs]
  induction hr : s.rxi generalizing s with
  | nil => exact .blocked hbusy hr
  | cons x rest ih =>
    cases x with
    | endOfInput => exact .ended hr hbusy rfl
    | byte b =>
      by_cases hb : b = syncByte
      · subst hb
        rw [receive_sync_cons]
        exact .of_step hr (regs := ⟨.readLen, s.rxL, s.rxLc, s.rxFill, s.rxBody⟩) (step_seekSync_sync hr hs rfl)
          (computes_readLen rfl hfill)
      · rw [receive_skip_cons _ hb]
        exact .of_skip hr (step_seekSync_skip hr hs hb)
          (ih (s := { s with rxi := rest, rsp := s.rsp ++ [skipWord b] }) hs hfill hbusy rfl)

/-- From SEEK_SYNC with no body byte held, as many steps as the receive consumes items carry it out. -/
theorem receive_carriesOut {s : State} {r : Received} (hs : s.rxState = .seekSync) (hfill : s.rxFill = 0)
    (hr : receive s.cfg s.rxi = r) : ∃ t, s.CarriesOut r r.consumed t := by
  obtain ⟨m, t, hconsumed, h⟩ := hr ▸ computes_seekSync hs hfill
  rw [Nat.zero_add] at hconsumed
  exact ⟨t, hconsumed ▸ h⟩

/-- Settles O37. -/
theorem readerStepsComputeReceive : Obligations.ReaderStepsComputeReceive := by
  intro s hs hfill
  obtain ⟨t, hrun, hrsp, hrxi, hcfg, hcmd, htxo, hacc, hframer, hshows⟩ := receive_carriesOut hs hfill rfl
  exact ⟨t, hrun, hrsp, hrxi, hcfg, hcmd, htxo, hacc, hframer, hshows⟩

end Sys2Proof.Machine
end

section
/-!
SUPPORT. A frame of the framer as the reader takes it apart (41_framer.md R120, 42_reader.md R157): sync byte, the two
length bytes, and a body that validation accepts as the frame that was sent.
-/
namespace Sys2Proof.Machine

/-- The body bytes that the checksum covers: version, counter, flags, messageType, stx and the payload (R86). -/
def coveredBody (ctr : Word) (t : Half) (p : List Byte) : List Byte :=
  [versionByte, ctr.extractLsb' 0 8, ctr.extractLsb' 8 8, ctr.extractLsb' 16 8, ctr.extractLsb' 24 8, flagsByte,
    t.extractLsb' 0 8, t.extractLsb' 8 8, stxByte] ++ p

@[simp] theorem coveredBody_length (ctr : Word) (t : Half) (p : List Byte) :
    (coveredBody ctr t p).length = 9 + p.length := by
  simp [coveredBody]
  omega

/-- An envelope is its three bytes before the body, the covered body and the checksum of all these, for the two length
bytes of R87 and R88. -/
theorem exists_envelope_eq (c : Config) (ctr : Word) (t : Half) {p : List Byte} (hp : p.length ≤ 244) :
    ∃ l lc k0 k1 : Byte, l.toNat = 11 + p.length ∧ l.toNat + lc.toNat = 255 ∧
      crc16 c ([syncByte, l, lc] ++ coveredBody ctr t p) = fromLe16 k0 k1 ∧
      envelope c ctr t p = [syncByte, l, lc] ++ (coveredBody ctr t p ++ [k0, k1]) := by
  have hl := lengthByte_toNat hp
  refine ⟨_, _, _, _, hl, ?_, (fromLe16_le16 _).symm, rfl⟩
  rw [complementByte_toNat]
  omega

/-- A body with the checksum of the covered bytes is accepted as the frame that was sent. -/
theorem validateBody_coveredBody {c : Config} {l lc : Byte} {ctr : Word} {t : Half} {p : List Byte} {k0 k1 : Byte}
    (h : crc16 c ([syncByte, l, lc] ++ coveredBody ctr t p) = fromLe16 k0 k1) :
    validateBody c l lc (coveredBody ctr t p ++ [k0, k1]) = .accept ⟨ctr, t, p⟩ := by
  have hvalid := validateBody_of_header _ _ _ _ _ _ _ _ _ p h
  rw [fromLe16_le16, fromLe32_le32] at hvalid
  exact hvalid

/-- A frame after garbage without a sync byte is received as it was sent, and consumed exactly (R157, R159). -/
theorem receive_garbage_envelope (c : Config) {g : List Byte} (hg : ∀ b ∈ g, b ≠ syncByte) (ctr : Word) (t : Half)
    {p : List Byte} (hp : p.length ≤ 244) (items : List RxItem) :
    receive c (onWire (g ++ envelope c ctr t p) ++ items) =
      ⟨g.map skipWord, .ok ⟨ctr, t, p⟩, g.length + (14 + p.length)⟩ := by
  obtain ⟨l, lc, k0, k1, hl, hsum, hcrc, henv⟩ := exists_envelope_eq c ctr t hp
  rw [henv, ← List.append_assoc, receive_garbage_body c hg hsum (by simp [hl]; omega), validateBody_coveredBody hcrc, hl,
    Verdict.outcome]
  congr 1
  omega

/-- Settles O39: RX_RECV leaves the state from which the reader steps carry the receive out. -/
theorem framesRoundTripAfterGarbage : Obligations.FramesRoundTripAfterGarbage := by
  intro s g ctr t p rest hg hp hrxi
  have hreceive : receive s.cfg s.rxi = ⟨g.map skipWord, .ok ⟨ctr, t, p⟩, g.length + (14 + p.length)⟩ := by
    rw [hrxi]
    exact receive_garbage_envelope s.cfg hg ctr t hp rest
  obtain ⟨v, hrun, hrsp, hrest, hcfg, hcmd, htxo, hacc, hframer, hshows⟩ := receive_carriesOut
    (s := { s with rxValid := false, rxFill := 0, rxState := .seekSync }) rfl rfl hreceive
  obtain ⟨hidle, _, hvalid, hctr, htype, hplen, hpayload⟩ := hshows
  have hword : completionWord .ok (BitVec.ofNat 24 p.length) = BitVec.ofNat 32 p.length :=
    completionWord_ok_ofNat (by omega)
  have hdrop : s.rxi.drop (g.length + (14 + p.length)) = rest := by
    rw [hrxi]
    exact List.drop_left' (by simp [onWire])
  refine ⟨_, v, exec_rxRecv s, hrun, ?_, hrest.trans hdrop, hidle, hvalid, hctr, htype, hplen, hpayload, hcfg, hcmd, htxo,
    hacc, hframer⟩
  rw [hrsp, ← hword]
  rfl

end Sys2Proof.Machine
end

section
/-!
SUPPORT. One flipped bit of a frame (42_reader.md R158): what it does to the sync byte, to the sum of the two length bytes,
and to the two sides of the checksum comparison.
-/
namespace Sys2Proof.Machine

/-! A flipped bit (R158). -/

theorem flipBit_zero_cons (b : Byte) (f : List Byte) (j : Nat) :
    flipBit (b :: f) 0 j = (b ^^^ ((1 <<< j : ℕ) : Byte)) :: f := rfl

theorem flipBit_succ_cons (b : Byte) (f : List Byte) (k j : Nat) : flipBit (b :: f) (k + 1) j = b :: flipBit f k j := rfl

theorem flipBit_append_of_lt {f : List Byte} {k : Nat} (hk : k < f.length) (g : List Byte) (j : Nat) :
    flipBit (f ++ g) k j = flipBit f k j ++ g := by
  induction f generalizing k with
  | nil => exact absurd hk (Nat.not_lt_zero k)
  | cons b f ih =>
    cases k with
    | zero => rfl
    | succ k => rw [List.cons_append, flipBit_succ_cons, ih (Nat.lt_of_succ_lt_succ hk)]; rfl

theorem flipBit_append_add (f g : List Byte) (k j : Nat) :
    flipBit (f ++ g) (f.length + k) j = f ++ flipBit g k j := by
  induction f with
  | nil => simp
  | cons b f ih =>
    rw [List.cons_append, List.length_cons, Nat.add_right_comm, flipBit_succ_cons, ih]
    rfl

@[simp] theorem flipBit_length (f : List Byte) (k j : Nat) : (flipBit f k j).length = f.length := by simp [flipBit]

theorem xor_bit_ne (b : Byte) {j : Nat} (hj : j < 8) : b ^^^ ((1 <<< j : ℕ) : Byte) ≠ b := by
  intro h
  have hzero : ((1 <<< j : ℕ) : Byte) = 0 := by simpa using h
  interval_cases j <;> exact absurd hzero (by decide)

/-- The bytes of a u16 are its own (20_memory.md R52). -/
theorem fromLe16_inj {a0 a1 b0 b1 : Byte} : fromLe16 a0 a1 = fromLe16 b0 b1 ↔ a0 = b0 ∧ a1 = b1 := by
  refine ⟨fun h => ⟨?_, ?_⟩, by rintro ⟨rfl, rfl⟩; rfl⟩
  · simpa only [fromLe16, BitVec.extractLsb'_append_eq_right] using congrArg (BitVec.extractLsb' 0 8) h
  · simpa only [fromLe16, BitVec.extractLsb'_append_eq_left] using congrArg (BitVec.extractLsb' 8 8) h

/-! The body and its checksum. -/

/-- A bit flipped anywhere in a body whose checksum was good is a checksum mismatch: in the covered bytes it changes the
computed checksum (40_crc.md R107), and in the last two bytes the received one. -/
theorem validateBody_flipBit {c : Config} (hpoly : c.crcPoly ≠ 0) {l lc : Byte} {front : List Byte} {k0 k1 : Byte}
    (hcrc : crc16 c ([syncByte, l, lc] ++ front) = fromLe16 k0 k1) {i j : Nat} (hi : i < front.length + 2) (hj : j < 8) :
    validateBody c l lc (flipBit (front ++ [k0, k1]) i j) = .reject .checksumMismatch := by
  by_cases hfront : i < front.length
  · rw [flipBit_append_of_lt hfront]
    refine validateBody_of_checksum_ne ?_
    rw [← hcrc]
    exact crcDetectsEverySingleBitChange c ([syncByte, l, lc] ++ front) (i + 3) j hpoly (by simpa using hfront) hj
  · obtain ⟨m, rfl⟩ := Nat.exists_eq_add_of_le (Nat.le_of_not_lt hfront)
    rw [flipBit_append_add]
    match m, hi with
    | 0, _ =>
      refine validateBody_of_checksum_ne fun h => xor_bit_ne k0 hj ?_
      obtain ⟨hlow, _⟩ := fromLe16_inj.mp (hcrc.symm.trans h)
      exact hlow.symm
    | 1, _ =>
      refine validateBody_of_checksum_ne fun h => xor_bit_ne k1 hj ?_
      obtain ⟨_, hhigh⟩ := fromLe16_inj.mp (hcrc.symm.trans h)
      exact hhigh.symm
    | m + 2, hi => omega

/-! The flipped frame, by the byte the bit is in. -/

/-- In byte 0: without a sync byte at its head, the first event of a receive is the SKIP of the byte that stands there. -/
theorem receive_events_head?_of_skip (c : Config) {b : Byte} (hb : b ≠ syncByte) (items : List RxItem) :
    (receive c (.byte b :: items)).events.head? = some (skipWord b) := by
  rw [receive_skip_cons c hb]
  rfl

/-- In byte 1 or 2: the two length bytes no longer sum to 0xFF, whatever follows them. -/
theorem receive_frame_mismatch (c : Config) {l lc : Byte} (hsum : l.toNat + lc.toNat ≠ 255) (body : List Byte)
    (items : List RxItem) :
    receive c (onWire ([syncByte, l, lc] ++ body) ++ items) = ⟨[], .failed .lengthComplementMismatch, 3⟩ := by
  rw [onWire_append, List.append_assoc]
  exact receive_garbage_mismatch c (List.forall_mem_nil _) hsum _

/-- In the body: the frame is consumed whole, and its checksum does not match. -/
theorem receive_frame_flipBit_body {c : Config} (hpoly : c.crcPoly ≠ 0) {l lc : Byte} {front : List Byte} {k0 k1 : Byte}
    (hsum : l.toNat + lc.toNat = 255) (hlen : front.length + 2 = l.toNat)
    (hcrc : crc16 c ([syncByte, l, lc] ++ front) = fromLe16 k0 k1) {i j : Nat} (hi : i < l.toNat) (hj : j < 8)
    (items : List RxItem) :
    receive c (onWire ([syncByte, l, lc] ++ flipBit (front ++ [k0, k1]) i j) ++ items) =
      ⟨[], .failed .checksumMismatch, 3 + l.toNat⟩ := by
  have hreceive := receive_garbage_body c (g := []) (List.forall_mem_nil _)
    (body := flipBit (front ++ [k0, k1]) i j) hsum (by simpa using hlen) items
  rw [validateBody_flipBit hpoly hcrc (by omega) hj] at hreceive
  simpa [Verdict.outcome] using hreceive

/-- Settles O40, by the byte the bit is in. -/
theorem singleBitCorruptionIsReported : Obligations.SingleBitCorruptionIsReported := by
  intro c ctr t p k j rest hpoly hp hj
  obtain ⟨l, lc, k0, k1, hl, hsum, hcrc, henv⟩ := exists_envelope_eq c ctr t hp
  rw [henv]
  refine ⟨?_, ?_, fun hk hlt => ?_⟩
  · rintro rfl
    exact receive_events_head?_of_skip c (xor_bit_ne syncByte hj) _
  · rintro (rfl | rfl)
    · have hne := xor_bit_ne l hj
      exact receive_frame_mismatch c (by bv_omega) _ rest
    · have hne := xor_bit_ne lc hj
      exact receive_frame_mismatch c (by bv_omega) _ rest
  · obtain ⟨i, rfl⟩ := Nat.exists_eq_add_of_le hk
    have hflip : flipBit ([syncByte, l, lc] ++ (coveredBody ctr t p ++ [k0, k1])) (3 + i) j =
        [syncByte, l, lc] ++ flipBit (coveredBody ctr t p ++ [k0, k1]) i j := flipBit_append_add _ _ _ _
    have hlength : 14 + p.length = 3 + l.toNat := by omega
    rw [hflip, hlength]
    exact receive_frame_flipBit_body hpoly hsum (by rw [coveredBody_length]; omega) hcrc (by omega) hj rest

end Sys2Proof.Machine
end

section
/-!
SUPPORT. The engine step (43_control.md R180, R181, R188): the command step on a word that decodes, and the two states in
which the engine has no step.
-/
namespace Sys2Proof.Machine

/-- A command step on a word that decodes runs the command without the word (R180, R181). -/
theorem step_of_decode_ok {s : State} {w : CmdWord} {rest : List CmdWord} {i : Instr} (hidle : s.rxState = .idle)
    (hcmd : s.cmd = w :: rest) (hdecode : decode w = .ok i) : step s = exec i { s with cmd := rest } := by
  have hselect : s.select = .command w { s with cmd := rest } := by simp [State.select, hidle, hcmd]
  simp only [step, hselect, hdecode]

theorem step_of_quiescent {s : State} (h : s.Quiescent) : step s = .fault .quiescent := by
  obtain ⟨hidle, hcmd⟩ := h
  have hselect : s.select = .idle := by simp [State.select, hidle, hcmd]
  simp only [step, hselect]

theorem step_of_waiting {s : State} (h : s.Waiting) : step s = .fault .waiting := by
  obtain ⟨hbusy, hrxi⟩ := h
  have hselect : s.select = .waiting := by simp [State.select, hbusy, hrxi]
  simp only [step, hselect]

/-- Settles O7. -/
theorem stepRunsTheDecodedCommand : Obligations.StepRunsTheDecodedCommand :=
  fun _ _ _ _ => step_of_decode_ok

/-- Settles O9: the state that the command's effect describes. -/
theorem everyCommandAnswersNext : Obligations.EveryCommandAnswersNext := by
  intro i s
  obtain ⟨t, h, _⟩ := exec_answers_effect i s
  exact ⟨t, h⟩

/-- Outside the two states with no step, the engine takes a word or an item and answers a next state. -/
theorem exists_next_of_not_over {s : State} (h : ¬ s.Over) : ∃ t, step s = .next t := by
  rcases s.select_cases with ⟨hi, hc, _⟩ | ⟨w, rest, hi, hc, _⟩ | ⟨hi, hr, _⟩ | ⟨x, rest, hi, hr, _⟩
  · exact absurd (.inl ⟨hi, hc⟩) h
  · cases hd : decode w with
    | ok i => exact step_of_decode_ok hi hc hd ▸ everyCommandAnswersNext i _
    | error e => exact ⟨_, step_of_decode_error hi hc hd⟩
  · exact absurd (.inr ⟨hi, hr⟩) h
  · exact ⟨_, step_reader hi hr⟩

/-- Settles O8, by the three outcomes of the engine's selection. -/
theorem stepStopsExactlyWhenOver : Obligations.StepStopsExactlyWhenOver :=
  fun _ => ⟨step_of_quiescent, step_of_waiting, exists_next_of_not_over⟩

end Sys2Proof.Machine
end

section
/-!
SUPPORT. The end of a run (43_control.md R189): each step shortens CMD or RXI, so the words and items left bound the steps
left.
-/
namespace Sys2Proof.Machine

/-- A step takes one entry from CMD or from RXI and leaves the other's length alone (R189). -/
theorem step_lengths {s t : State} (h : step s = .next t) :
    (s.rxState = .idle → t.cmd.length + 1 = s.cmd.length ∧ t.rxi.length = s.rxi.length) ∧
    (s.rxState ≠ .idle → t.rxi.length + 1 = s.rxi.length ∧ t.cmd.length = s.cmd.length) := by
  obtain ⟨hports, _⟩ := portsAreFirstInFirstOut s t h
  rcases hports with ⟨hi, ⟨w, hcmd⟩, hrxi⟩ | ⟨hi, ⟨x, hrxi⟩, hcmd⟩
  · exact ⟨fun _ => by simp [hcmd, hrxi], fun hbusy => absurd hi hbusy⟩
  · exact ⟨fun hidle => absurd hidle hi, fun _ => by simp [hcmd, hrxi]⟩

theorem step_uses_one_entry {s t : State} (h : step s = .next t) :
    t.cmd.length + t.rxi.length + 1 = s.cmd.length + s.rxi.length := by
  obtain ⟨hcommand, hreader⟩ := step_lengths h
  by_cases hi : s.rxState = .idle
  · obtain ⟨hcmd, hrxi⟩ := hcommand hi
    omega
  · obtain ⟨hrxi, hcmd⟩ := hreader hi
    omega

/-- With n words and items left, at most n steps lead to a state that is over (R188). -/
theorem exists_run_to_over (n : Nat) {s : State} (hn : s.cmd.length + s.rxi.length = n) :
    ∃ k t, k ≤ n ∧ runSteps k s = .next t ∧ t.Over := by
  induction n generalizing s with
  | zero =>
    have hcmd : s.cmd = [] := List.eq_nil_of_length_eq_zero (by omega)
    have hrxi : s.rxi = [] := List.eq_nil_of_length_eq_zero (by omega)
    by_cases hi : s.rxState = .idle
    · exact ⟨0, s, le_rfl, rfl, .inl ⟨hi, hcmd⟩⟩
    · exact ⟨0, s, le_rfl, rfl, .inr ⟨hi, hrxi⟩⟩
  | succ n ih =>
    by_cases hover : s.Over
    · exact ⟨0, s, Nat.zero_le _, rfl, hover⟩
    · obtain ⟨u, hu⟩ := exists_next_of_not_over hover
      have hleft := step_uses_one_entry hu
      obtain ⟨k, t, hk, hrun, ht⟩ := ih (s := u) (by omega)
      exact ⟨k + 1, t, Nat.succ_le_succ hk, (runSteps_succ_of_next hu k).trans hrun, ht⟩

/-- Settles O12: what one step uses up, then induction on the words and items left. -/
theorem everyRunEndsOver : Obligations.EveryRunEndsOver :=
  ⟨fun _ _ => step_lengths, fun _ => exists_run_to_over _ rfl⟩

end Sys2Proof.Machine
end

section
/-!
SUPPORT. One completion for each command (43_control.md R182): a command step adds one to the completion words and the
receive in progress, counted together, and a reader step adds nothing.
-/
namespace Sys2Proof.Machine

/-! Which response words are completion words (30_encoding.md R80, R81). -/

theorem isCompletion_completionWord (code : StatusCode) (data : BitVec 24) :
    isCompletion (completionWord code data) = true := by
  have hcode : (code.bits.zeroExtend 32 <<< 24).msb = false := by cases code <;> rfl
  have hdata : (data.zeroExtend 32).msb = false := by simp [BitVec.msb_setWidth]
  rw [isCompletion, completionWord, BitVec.msb_or, hcode, hdata]
  rfl

theorem isCompletion_skipWord (b : Byte) : isCompletion (skipWord b) = false := by
  have hevent : (0x81000000 : RspWord).msb = true := rfl
  rw [isCompletion, skipWord, BitVec.msb_or, hevent, Bool.true_or]
  rfl

@[simp] theorem State.complete_completions (s : State) (code : StatusCode) (data : BitVec 24) :
    (s.complete code data).completions = s.completions + 1 := by
  simp [State.completions, isCompletion_completionWord]

@[simp] theorem State.skipEvent_completions (s : State) (b : Byte) : (s.skipEvent b).completions = s.completions := by
  simp [State.completions, isCompletion_skipWord]

/-! The completion words and the receive in progress, counted together. -/

theorem State.pending_of_idle {s : State} (h : s.rxState = .idle) : s.pending = 0 := if_pos h

theorem State.pending_of_busy {s : State} (h : s.rxState ≠ .idle) : s.pending = 1 := if_neg h

/-- Completing a command while no receive is in progress. -/
theorem State.complete_completions_add_pending {s : State} (h : s.rxState = .idle) (code : StatusCode)
    (data : BitVec 24) : (s.complete code data).completions + (s.complete code data).pending = s.completions + 1 := by
  rw [State.pending_of_idle (s := s.complete code data) h, State.complete_completions, Nat.add_zero]

/-- A command completes, or it is an RX_RECV and leaves a receive in progress. -/
theorem CommandEffect.completions_add_pending {i : Instr} {s t : State} (e : CommandEffect s i t)
    (hi : s.rxState = .idle) : t.completions + t.pending = s.completions + 1 := by
  cases e with
  | openReceive => rfl
  | _ => exact State.complete_completions_add_pending hi _ _

/-- A reader step leaves the receive in progress, or it ends it with its completion word (42_reader.md R153). -/
theorem ReaderEffect.completions_add_pending {s t : State} (e : ReaderEffect s t) (hi : s.rxState ≠ .idle) :
    t.completions + t.pending = s.completions + 1 := by
  cases e with
  | fail => exact State.complete_completions_add_pending rfl _ _
  | emit => exact State.complete_completions_add_pending rfl _ _
  | skip b => rw [State.skipEvent_completions, State.pending_of_busy (s := s.skipEvent b) hi]
  | sync => rfl
  | length => rfl
  | openBody => rfl
  | bodyByte => exact congrArg (s.completions + ·) (State.pending_of_busy hi)

/-- After every step the two counts together are one more than the completion words before it. -/
theorem step_completions_add_pending {s t : State} (h : step s = .next t) :
    t.completions + t.pending = s.completions + 1 := by
  rcases step_effect h with ⟨w, rest, i, hi, _, _, e⟩ | ⟨w, rest, _, hi, _, _, rfl⟩ | ⟨x, rest, hi, _, e⟩
  · exact e.completions_add_pending hi
  · exact State.complete_completions_add_pending hi _ _
  · exact e.completions_add_pending hi

/-- Settles O11: a command step takes one word while nothing is pending, a reader step takes none while one is. -/
theorem oneCompletionForEachCommand : Obligations.OneCompletionForEachCommand := by
  intro s t h
  have hcount := step_completions_add_pending h
  obtain ⟨hcommand, hreader⟩ := step_lengths h
  by_cases hi : s.rxState = .idle
  · obtain ⟨hcmd, _⟩ := hcommand hi
    have hpending := State.pending_of_idle hi
    omega
  · obtain ⟨_, hcmd⟩ := hreader hi
    have hpending := State.pending_of_busy hi
    omega

end Sys2Proof.Machine
end

section
/-!
SUPPORT. The control unit's commands (43_control.md R183, R185): their words, and what REG_READ answers for each address of
the register map (10_state.md R39).
-/
namespace Sys2Proof.Machine

theorem exec_nop (s : State) : exec .nop s = s.answered 0x00000000 := rfl

/-- Settles O14. -/
theorem nopOnlyCompletes : Obligations.NopOnlyCompletes :=
  ⟨encodedN_of_encode rfl rfl, exec_nop⟩

/-! What REG_READ answers, by what the register space gives (R185). -/

section
variable {s : State} {a : Byte}

theorem exec_regRead_of_value {v : Half} (h : s.readRegister a = .value v) :
    exec (.regRead a) s = s.answered (v.zeroExtend 32) := by
  rw [exec_regRead, h]
  exact next_complete_half s v

theorem exec_regRead_of_error {e : StatusCode} (h : s.readRegister a = .error e) :
    exec (.regRead a) s = s.answered (completionWord e 0) := by
  rw [exec_regRead, h]
  rfl

end

theorem State.ofFrame_of_valid {n : Nat} {s : State} (h : s.rxValid = true) (v : BitVec n) : s.ofFrame v = .value v :=
  if_pos h

theorem State.ofFrame_of_not_valid {n : Nat} {s : State} (h : s.rxValid = false) (v : BitVec n) :
    s.ofFrame v = .error .noFrame :=
  if_neg (by simp [h])

/-- The four decoded-frame registers give nothing while VALID is 0 (10_state.md R38). -/
theorem readRegister_noFrame {s : State} (h : s.rxValid = false) {a : Byte}
    (ha : a ∈ [(0x09 : Byte), 0x0A, 0x0B, 0x0C]) : s.readRegister a = .error .noFrame := by
  simp only [List.mem_cons, List.not_mem_nil, or_false] at ha
  rcases ha with rfl | rfl | rfl | rfl
  · exact State.ofFrame_of_not_valid h _
  · exact State.ofFrame_of_not_valid h _
  · exact State.ofFrame_of_not_valid h _
  · exact State.ofFrame_of_not_valid h _

/-- The unassigned addresses (R185). -/
theorem readRegister_badAddress (s : State) {a : Byte} (ha : a = 0x06 ∨ a = 0x07 ∨ 0x0D ≤ a.toNat) :
    s.readRegister a = .error .badAddress := by
  rcases ha with rfl | rfl | ha
  · rfl
  · rfl
  · have hne (c : Byte) (hc : c.toNat < 0x0D) : a ≠ c := by
      rintro rfl
      omega
    simp [State.readRegister, hne]

/-! The values that are not a register as it stands (R39). -/

theorem statusBit_zeroExtend (b : Bool) : (statusBit b).zeroExtend 32 = if b then 1 else 0 := by
  cases b with
  | false => rfl
  | true => rfl

/-- Settles O15: one equation for each register, and the two errors. -/
theorem regReadAnswersTheRegisterMap : Obligations.RegReadAnswersTheRegisterMap := by
  refine ⟨encodedB_of_encode (.inr rfl) fun _ => rfl, fun s =>
    ⟨exec_regRead_of_value rfl, exec_regRead_of_value rfl, exec_regRead_of_value rfl, ?_, exec_regRead_of_value rfl,
      ?_, ?_, fun hv => ⟨?_, ?_, ?_, ?_⟩, fun hv a ha => ?_, fun a ha => ?_⟩⟩
  · rw [← statusBit_zeroExtend]
    exact exec_regRead_of_value rfl
  · rw [← BitVec.setWidth_append_eq_shiftLeft_setWidth_or]
    exact exec_regRead_of_value rfl
  · rw [← statusBit_zeroExtend]
    exact exec_regRead_of_value rfl
  · exact exec_regRead_of_value (State.ofFrame_of_valid hv _)
  · exact exec_regRead_of_value (State.ofFrame_of_valid hv _)
  · exact exec_regRead_of_value (State.ofFrame_of_valid hv _)
  · have hplen : (s.rxPlen.zeroExtend 16).zeroExtend 32 = (s.rxPlen.zeroExtend 32 : Word) :=
      BitVec.setWidth_setWidth (by decide)
    rw [← hplen]
    exact exec_regRead_of_value (State.ofFrame_of_valid hv _)
  · exact exec_regRead_of_error (readRegister_noFrame hv ha)
  · exact exec_regRead_of_error (readRegister_badAddress s ha)

end Sys2Proof.Machine
end

section
/-!
SUPPORT. Reset and the outside agents (70_reset_and_hazards.md): what reset gives, what a move touches, and the parameters.
-/
namespace Sys2Proof.Machine

/-! Reading and draining a port (R245). -/

theorem hostRead_cons {s : State} {w : RspWord} {rest : List RspWord} (h : s.rsp = w :: rest) :
    Move.hostRead.apply s = some { s with rsp := rest } := by
  simp [Move.apply, h]

theorem txDrain_cons {s : State} {b : Byte} {rest : List Byte} (h : s.txo = b :: rest) :
    Move.txDrain.apply s = some { s with txo := rest } := by
  simp [Move.apply, h]

/-- Settles O52. -/
theorem outsideMovesTouchTheirPortOnly : Obligations.OutsideMovesTouchTheirPortOnly :=
  fun _ => ⟨fun _ => rfl, fun _ => rfl, fun _ _ => hostRead_cons, fun _ _ => txDrain_cons, fun h => if_pos h,
    fun h => if_pos h⟩

/-- Settles O53: a step keeps the parameters by its effect, a move by its cases. -/
theorem parametersNeverChange : Obligations.ParametersNeverChange :=
  ⟨fun _ _ => step_cfg, fun _ _ _ => Move.apply_cfg⟩

/-- Settles O49: each value stands in the definition of the reset state. -/
theorem resetHoldsTheSpecifiedValues : Obligations.ResetHoldsTheSpecifiedValues :=
  ⟨rfl, rfl, fun _ => ⟨rfl, rfl, rfl, rfl, rfl, rfl, rfl, rfl, rfl, rfl, rfl⟩⟩

/-- Settles O50: `State.resetMove` is the reset state but for TXO and RXI, whatever state it starts from. -/
theorem resetLeavesTheTransportAlone : Obligations.ResetLeavesTheTransportAlone :=
  fun s => ⟨s.resetMove, rfl, rfl, rfl, rfl, rfl, rfl, rfl, rfl, rfl, rfl, rfl, rfl, rfl, rfl⟩

end Sys2Proof.Machine
end

section
/-!
SUPPORT. Noninterference of the unspecified values (70_reset_and_hazards.md R231, 10_state.md R43): every operation of the
block takes states that `State.SameVisible` relates to states that it relates. One rule for each operation; the step and the
moves are assembled from them. No rule needs the invariants of R42.
-/
namespace Sys2Proof.Machine

/-! Arrays that agree below an index. -/

theorem AgreeBelow.zero (a b : List Byte) : AgreeBelow 0 a b := fun i hi => absurd hi (Nat.not_lt_zero i)

/-- The bytes of a slice from 0 are the bytes below its end. -/
theorem AgreeBelow.slice_eq {n : Nat} {a b : List Byte} (h : AgreeBelow n a b) : slice a 0 n = slice b 0 n := by
  refine List.map_congr_left fun i hi => ?_
  have hlt : i < n := by simpa using hi
  simp only [byteAt, Nat.zero_add, h i hlt]

/-- Writing the same byte at the fill counter in both arrays and advancing the counter keeps the agreement, also where the
counter wraps or stands outside the arrays. -/
theorem AgreeBelow.setByte_succ {n : Nat} {a b : Vector Byte n} {fill : Byte}
    (h : AgreeBelow fill.toNat a.toList b.toList) (v : Byte) :
    AgreeBelow (fill + 1).toNat (setByte a fill v).toList (setByte b fill v).toList := by
  intro i hi
  have hle : i ≤ fill.toNat := by bv_omega
  rw [setByte_toList, setByte_toList]
  rcases Nat.lt_or_eq_of_le hle with hlt | rfl
  · rw [List.getElem?_set_ne (Nat.ne_of_gt hlt), List.getElem?_set_ne (Nat.ne_of_gt hlt), h i hlt]
  · simp only [List.getElem?_set, Vector.length_toList, if_true]

/-- The entries below the payload's length are the payload's, whatever the array held before (42_reader.md R152). -/
theorem agreeBelow_storePayload {n : Nat} (old old' : Vector Byte 244) {p : List Byte} (hn : n ≤ p.length) :
    AgreeBelow n (storePayload old p).toList (storePayload old' p).toList := by
  intro i hi
  have hp : i < p.length := Nat.lt_of_lt_of_le hi hn
  by_cases hcap : i < 244
  · rw [storePayload_getElem? _ _ _ hcap, storePayload_getElem? _ _ _ hcap, List.getElem?_eq_getElem hp,
      Option.getD_some, Option.getD_some]
  · rw [List.getElem?_eq_none (by simpa using hcap), List.getElem?_eq_none (by simpa using hcap)]

namespace State.SameVisible

theorem refl (s : State) : s.SameVisible s where
  cfg := rfl
  cmd := rfl
  rsp := rfl
  txo := rfl
  rxi := rfl
  crcAcc := rfl
  txCtr := rfl
  txStaging := rfl
  txType := rfl
  txLen := rfl
  txFill := rfl
  txBuf _ _ := rfl
  rxState := rfl
  rxL _ := rfl
  rxLc _ := rfl
  rxFill := rfl
  rxBody _ _ := rfl
  rxValid := rfl
  rxCtr _ := rfl
  rxType _ := rfl
  rxPlen _ := rfl
  rxPayload _ _ _ := rfl

variable {s t : State} (h : s.SameVisible t)
include h

/-! The ports. -/

theorem appendRsp (w : RspWord) :
    ({ s with rsp := s.rsp ++ [w] } : State).SameVisible { t with rsp := t.rsp ++ [w] } :=
  { h with rsp := congrArg (· ++ [w]) h.rsp }

theorem complete (code : StatusCode) (data : BitVec 24) : (s.complete code data).SameVisible (t.complete code data) :=
  h.appendRsp _

theorem withCmd (rest : List CmdWord) : ({ s with cmd := rest } : State).SameVisible { t with cmd := rest } :=
  { h with cmd := rfl }

theorem withRxi (rest : List RxItem) : ({ s with rxi := rest } : State).SameVisible { t with rxi := rest } :=
  { h with rxi := rfl }

/-! The checksum unit. -/

theorem answerCrcAcc {acc acc' : Half} (hacc : acc = acc') :
    SameOutcome (({ s with crcAcc := acc } : State).answered (acc.zeroExtend 32))
      (({ t with crcAcc := acc' } : State).answered (acc'.zeroExtend 32)) := by
  have hwrite : ({ s with crcAcc := acc } : State).SameVisible { t with crcAcc := acc' } := { h with crcAcc := hacc }
  subst hacc
  exact hwrite.appendRsp _

/-! The framer. -/

theorem clearStaging : s.clearStaging.SameVisible t.clearStaging :=
  { h with txStaging := rfl, txType := rfl, txLen := rfl, txFill := rfl, txBuf := .zero _ _ }

theorem openStaging (type : Half) (len : Byte) : (s.openStaging type len).SameVisible (t.openStaging type len) :=
  { h with txStaging := rfl, txType := rfl, txLen := rfl, txFill := rfl, txBuf := .zero _ _ }

theorem stageByte (b : Byte) : (s.stageByte b).SameVisible (t.stageByte b) where
  __ := h
  txFill := congrArg (· + 1) h.txFill
  txBuf := by
    have hbuf := h.txBuf.setByte_succ b
    simpa only [State.stageByte, h.txFill] using hbuf

theorem emitFrame (type : Half) (p : List Byte) : (s.emitFrame type p).SameVisible (t.emitFrame type p) := by
  have hpush : ({ s with txo := s.txo ++ envelope s.cfg s.txCtr type p, txCtr := s.txCtr + 1 } : State).SameVisible
      { t with txo := t.txo ++ envelope t.cfg t.txCtr type p, txCtr := t.txCtr + 1 } :=
    { h with txo := by simp only [h.txo, h.cfg, h.txCtr], txCtr := congrArg (· + 1) h.txCtr }
  exact hpush.clearStaging

/-! The index spaces. -/

/-- A register of the decoded frame is read only while VALID is 1 (10_state.md R38). -/
theorem ofFrame_eq {n : Nat} {v v' : BitVec n} (hv : s.rxValid = true → v = v') : s.ofFrame v = t.ofFrame v' := by
  by_cases hvalid : s.rxValid = true
  · rw [State.ofFrame_of_valid hvalid, State.ofFrame_of_valid (h.rxValid ▸ hvalid), hv hvalid]
  · rw [Bool.not_eq_true] at hvalid
    rw [State.ofFrame_of_not_valid hvalid, State.ofFrame_of_not_valid (h.rxValid ▸ hvalid)]

theorem readRegister_eq (a : Byte) : s.readRegister a = t.readRegister a := by
  have hctrLo := h.ofFrame_eq fun hv => congrArg (BitVec.extractLsb' 0 16) (h.rxCtr hv)
  have hctrHi := h.ofFrame_eq fun hv => congrArg (BitVec.extractLsb' 16 16) (h.rxCtr hv)
  have htype := h.ofFrame_eq h.rxType
  have hplen := h.ofFrame_eq fun hv => congrArg (BitVec.zeroExtend 16) (h.rxPlen hv)
  simp only [State.readRegister, State.txStatus, State.rxStatus, State.txProgress, h.crcAcc, h.txCtr, h.txStaging,
    h.txType, h.txLen, h.txFill, h.rxValid, hctrLo, hctrHi, htype, hplen]

/-- RX_PAYLOAD is read only while VALID is 1 and below RX_PLEN (20_memory.md R51). -/
theorem readPayload_eq (a : Byte) : s.readPayload a = t.readPayload a := by
  by_cases hvalid : s.rxValid = true
  · have hplen := h.rxPlen hvalid
    by_cases ha : a ≥ t.rxPlen
    · simp [State.readPayload, ← h.rxValid, hvalid, hplen, ha]
    · have hlt : a.toNat < s.rxPlen.toNat := by rw [hplen]; exact BitVec.not_le.mp ha
      simp [State.readPayload, ← h.rxValid, hvalid, hplen, byteAt, h.rxPayload hvalid _ hlt]
  · simp [State.readPayload, ← h.rxValid, hvalid]

theorem completeRead {n : Nat} (r : ReadResult n) : (s.completeRead r).SameVisible (t.completeRead r) := by
  cases r with
  | value v => exact h.complete _ _
  | error e => exact h.complete _ _

/-! The reader. -/

/-- RX_L, RX_LC and RX_BODY are not read while the reader is outside the length and the body (10_state.md R35, R36). -/
theorem withReaderAt (r : RxState) (hr : r ≠ .readLenc ∧ r ≠ .readBody) :
    ({ s with rxState := r, rxFill := 0 } : State).SameVisible { t with rxState := r, rxFill := 0 } :=
  { h with
    rxState := rfl
    rxL := fun hs => (not_or.mpr hr hs).elim
    rxLc := fun hs => (hr.2 hs).elim
    rxFill := rfl
    rxBody := .zero _ _ }

theorem endReceive (code : StatusCode) (data : BitVec 24) :
    (s.endReceive code data).SameVisible (t.endReceive code data) :=
  (h.withReaderAt .idle (by decide)).complete code data

theorem keepFrame (f : DecodedFrame) : (s.keepFrame f).SameVisible (t.keepFrame f) :=
  { h with
    rxCtr := fun _ => rfl
    rxType := fun _ => rfl
    rxPlen := fun _ => rfl
    rxPayload := fun _ => agreeBelow_storePayload _ _ (by simpa using Nat.mod_le _ _)
    rxValid := rfl }

theorem conclude (v : Verdict) : (s.conclude v).SameVisible (t.conclude v) := by
  cases v with
  | accept f => exact (h.keepFrame f).endReceive _ _
  | reject e => exact h.endReceive _ _

/-- Validation reads the two length bytes and the RX_L bytes of the body (42_reader.md R147). -/
theorem validate (hl : s.rxL = t.rxL) (hlc : s.rxLc = t.rxLc)
    (hbody : AgreeBelow s.rxL.toNat s.rxBody.toList t.rxBody.toList) : s.validate.SameVisible t.validate := by
  have hverdict : validateBody s.cfg s.rxL s.rxLc (slice s.rxBody.toList 0 s.rxL.toNat) =
      validateBody t.cfg t.rxL t.rxLc (slice t.rxBody.toList 0 t.rxL.toNat) := by
    rw [hbody.slice_eq, h.cfg, hl, hlc]
  unfold State.validate
  rw [hverdict]
  exact h.conclude _

theorem seekSyncStep (b : Byte) : (s.seekSyncStep b).SameVisible (t.seekSyncStep b) := by
  unfold State.seekSyncStep
  split
  · exact { h with
      rxState := rfl
      rxL := fun hs => hs.elim RxState.noConfusion RxState.noConfusion
      rxLc := RxState.noConfusion }
  · exact h.appendRsp _

theorem readLenStep (b : Byte) : (s.readLenStep b).SameVisible (t.readLenStep b) :=
  { h with rxState := rfl, rxL := fun _ => rfl, rxLc := RxState.noConfusion }

theorem readLencStep (b : Byte) (hs : s.rxState = .readLenc) : (s.readLencStep b).SameVisible (t.readLencStep b) := by
  have hl : s.rxL = t.rxL := h.rxL (.inl hs)
  have hlc : ({ s with rxLc := b } : State).SameVisible { t with rxLc := b } := { h with rxLc := fun _ => rfl }
  dsimp only [State.readLencStep]
  by_cases hsum : s.rxL.toNat + b.toNat ≠ 255
  · rw [if_pos hsum, if_pos (hl ▸ hsum)]
    exact hlc.endReceive _ _
  rw [if_neg hsum, if_neg (c := t.rxL.toNat + b.toNat ≠ 255) (hl ▸ hsum)]
  by_cases hzero : s.rxL = 0
  · rw [if_pos hzero, if_pos (hl ▸ hzero)]
    exact hlc.validate hl rfl (by rw [hzero]; exact .zero _ _)
  · rw [if_neg hzero, if_neg (hl ▸ hzero)]
    exact { hlc with rxState := rfl, rxL := fun _ => hl, rxLc := fun _ => rfl }

theorem readBodyStep (b : Byte) (hs : s.rxState = .readBody) : (s.readBodyStep b).SameVisible (t.readBodyStep b) := by
  have hl : s.rxL = t.rxL := h.rxL (.inr hs)
  have hbody : ({ s with rxBody := setByte s.rxBody s.rxFill b, rxFill := s.rxFill + 1 } : State).SameVisible
      { t with rxBody := setByte t.rxBody t.rxFill b, rxFill := t.rxFill + 1 } :=
    { h with
      rxFill := congrArg (· + 1) h.rxFill
      rxBody := by simpa only [h.rxFill] using h.rxBody.setByte_succ b }
  dsimp only [State.readBodyStep]
  by_cases hlast : s.rxFill + 1 = s.rxL
  · rw [if_pos hlast, if_pos (by rw [← h.rxFill, ← hl, hlast])]
    exact hbody.validate hl (h.rxLc hs) (hlast ▸ hbody.rxBody)
  · rw [if_neg hlast, if_neg (by rwa [← h.rxFill, ← hl])]
    exact hbody

theorem readerStep_endOfInput (hs : s.rxState ≠ .idle) :
    (s.readerStep .endOfInput).SameVisible (t.readerStep .endOfInput) := by
  have hend {u : State} (hu : u.rxState ≠ .idle) : u.readerStep .endOfInput = u.endReceive .inputExhausted 0 := by
    rcases u.readerStep_cases .endOfInput hu with ⟨_, he⟩ | ⟨b, hb, _⟩
    · exact he
    · cases hb
  rw [hend hs, hend (h.rxState ▸ hs)]
  exact h.endReceive _ _

theorem readerStep_byte (b : Byte) : (s.readerStep (.byte b)).SameVisible (t.readerStep (.byte b)) := by
  have ht := h.rxState.symm
  cases hs : s.rxState with
  | idle => simpa only [State.readerStep, ht, hs] using h
  | seekSync => simpa only [State.readerStep, ht, hs] using h.seekSyncStep b
  | readLen => simpa only [State.readerStep, ht, hs] using h.readLenStep b
  | readLenc => simpa only [State.readerStep, ht, hs] using h.readLencStep b hs
  | readBody => simpa only [State.readerStep, ht, hs] using h.readBodyStep b hs

theorem readerStep (x : RxItem) (hs : s.rxState ≠ .idle) : (s.readerStep x).SameVisible (t.readerStep x) := by
  cases x with
  | endOfInput => exact h.readerStep_endOfInput hs
  | byte b => exact h.readerStep_byte b

/-! The commands. -/

theorem execTxBegin (type : Half) (len : Byte) :
    SameOutcome (Machine.execTxBegin type len s) (Machine.execTxBegin type len t) := by
  unfold Machine.execTxBegin
  rw [← h.txStaging]
  split_ifs
  · exact h.complete _ _
  · exact h.complete _ _
  · exact (h.emitFrame _ _).complete _ _
  · exact (h.openStaging _ _).complete _ _

/-- The last byte of a staged frame is at the fill counter, so the payload is emitted from written entries
(41_framer.md R125). -/
theorem execTxData (b : Byte) : SameOutcome (Machine.execTxData b s) (Machine.execTxData b t) := by
  have hstage := h.stageByte b
  dsimp only [Machine.execTxData]
  rw [← h.txStaging, ← hstage.txFill, ← hstage.txLen, ← hstage.txType]
  split_ifs with _ hlast
  · exact h.complete _ _
  · have hbuf : AgreeBelow (s.stageByte b).txLen.toNat (s.stageByte b).txBuf.toList (t.stageByte b).txBuf.toList :=
      hlast ▸ hstage.txBuf
    rw [hbuf.slice_eq]
    exact (hstage.emitFrame _ _).complete _ _
  · exact hstage.complete _ _

theorem exec (i : Instr) : SameOutcome (Machine.exec i s) (Machine.exec i t) := by
  cases i with
  | nop => exact h.complete _ _
  | crcClear =>
    rw [exec_crcClear, exec_crcClear]
    exact h.answerCrcAcc (congrArg Config.crcInit h.cfg)
  | crcFeed b =>
    rw [exec_crcFeed, exec_crcFeed]
    exact h.answerCrcAcc (by rw [h.cfg, h.crcAcc])
  | txBegin type len => exact h.execTxBegin type len
  | txData b => exact h.execTxData b
  | txAbort => exact h.clearStaging.complete _ _
  | rxRecv =>
    exact { h.withReaderAt .seekSync (by decide) with
      rxValid := rfl
      rxCtr := Bool.noConfusion
      rxType := Bool.noConfusion
      rxPlen := Bool.noConfusion
      rxPayload := Bool.noConfusion }
  | rxRead a =>
    rw [exec_rxRead, exec_rxRead, h.readPayload_eq]
    exact h.completeRead _
  | regRead a =>
    rw [exec_regRead, exec_regRead, h.readRegister_eq]
    exact h.completeRead _

/-! The step and the moves. -/

/-- While IDLE the engine is quiescent or takes the head of CMD (43_control.md R181), which both states share. -/
theorem step_of_idle (hs : s.rxState = .idle) : SameOutcome (Machine.step s) (Machine.step t) := by
  have ht : t.rxState = .idle := h.rxState ▸ hs
  cases hc : s.cmd with
  | nil =>
    rw [step_of_quiescent ⟨hs, hc⟩, step_of_quiescent ⟨ht, h.cmd ▸ hc⟩]
    rfl
  | cons w rest =>
    have hct : t.cmd = w :: rest := h.cmd ▸ hc
    cases hd : decode w with
    | ok i =>
      rw [step_of_decode_ok hs hc hd, step_of_decode_ok ht hct hd]
      exact (h.withCmd rest).exec i
    | error e =>
      rw [step_of_decode_error hs hc hd, step_of_decode_error ht hct hd]
      exact (h.withCmd rest).appendRsp _

/-- During a receive the engine waits or takes the head of RXI (R181), which both states share. -/
theorem step_of_busy (hs : s.rxState ≠ .idle) : SameOutcome (Machine.step s) (Machine.step t) := by
  have ht : t.rxState ≠ .idle := h.rxState ▸ hs
  cases hr : s.rxi with
  | nil =>
    rw [step_of_waiting ⟨hs, hr⟩, step_of_waiting ⟨ht, h.rxi ▸ hr⟩]
    rfl
  | cons x rest =>
    rw [step_reader hs hr, step_reader ht (h.rxi ▸ hr)]
    exact (h.withRxi rest).readerStep x hs

theorem step : SameOutcome (Machine.step s) (Machine.step t) := by
  by_cases hs : s.rxState = .idle
  · exact h.step_of_idle hs
  · exact h.step_of_busy hs

theorem move {m : Move} {s1 : State} (hm : m.apply s = some s1) : ∃ t1, m.apply t = some t1 ∧ s1.SameVisible t1 := by
  cases m with
  | hostWrite w =>
    cases hm
    exact ⟨_, rfl, { h with cmd := congrArg (· ++ [w]) h.cmd }⟩
  | hostRead =>
    obtain ⟨hne, hsome⟩ := Option.ite_none_left_eq_some.mp hm
    cases hsome
    exact ⟨_, if_neg (h.rsp ▸ hne), { h with rsp := congrArg List.tail h.rsp }⟩
  | txDrain =>
    obtain ⟨hne, hsome⟩ := Option.ite_none_left_eq_some.mp hm
    cases hsome
    exact ⟨_, if_neg (h.txo ▸ hne), { h with txo := congrArg List.tail h.txo }⟩
  | rxAppend x =>
    cases hm
    exact ⟨_, rfl, { h with rxi := congrArg (· ++ [x]) h.rxi }⟩
  | reset =>
    cases hm
    have hreset : s.resetMove = t.resetMove := by simp only [State.resetMove, h.cfg, h.txo, h.rxi]
    exact ⟨_, rfl, hreset ▸ .refl _⟩

end State.SameVisible

/-- Settles O51: the rules above for the step and the moves; in the reset state both fill counters are 0, VALID is 0 and no
receive is in progress, so nothing that R231 leaves unspecified is visible. -/
theorem unspecifiedValuesAreNeverObserved : Obligations.UnspecifiedValuesAreNeverObserved := by
  refine ⟨fun _ _ _ h => h.step, fun _ _ _ _ h hm => h.move hm, ?_⟩
  intro c s hcfg hcmd hrsp htxo hrxi hcrc hctr hstaging htype hlen hfill hstate hrxfill hvalid
  exact
    { cfg := hcfg
      cmd := hcmd
      rsp := hrsp
      txo := htxo
      rxi := hrxi
      crcAcc := hcrc
      txCtr := hctr
      txStaging := hstaging
      txType := htype
      txLen := hlen
      txFill := hfill
      txBuf := hfill ▸ .zero _ _
      rxState := hstate
      rxL := by simp [hstate]
      rxLc := by simp [hstate]
      rxFill := hrxfill
      rxBody := hrxfill ▸ .zero _ _
      rxValid := hvalid
      rxCtr := by simp [hvalid]
      rxType := by simp [hvalid]
      rxPlen := by simp [hvalid]
      rxPayload := by simp [hvalid] }

end Sys2Proof.Machine
end
